-- ==== Sys2Proof/Word.lean ====
section
/-! DEFINITION. The two word types of the machine (spec/10_state.md R20, R23). -/

namespace Sys2Proof

/-- An 8-bit register or memory byte. -/
abbrev Byte := BitVec 8

/-- A 16-bit register, register pair or bus address. -/
abbrev Word := BitVec 16

end Sys2Proof
end

