-- ==== Sys2Proof/Syntax.lean ====
section
/-! DEFINITION. The instructions: one constructor for each row of spec/opcode_table.json (spec/30_encoding.md R142,
R143), with the operand bytes the row's format gives it (R130): `n` for `d8` and `a8`, `e` for `e8`, `v` for `d16` and
`a16`. The rows with operand bytes stand first (Lean's compiled code numbers such constructors in one byte), then the
rows without, each in the table's order. Below it, the families: one function per group of rows that share a rule, from the
operand (R133, R135, R136, R137) to the row. -/

namespace Sys2Proof

/-- The registers a 3-bit register field can name; index 6 is the memory byte at HL and no register (R133, R134). -/
inductive Reg8 where
  | b | c | d | e | h | l | a
deriving DecidableEq, Repr

/-- The pairs the field `p` names in `LD rr,d16`, `ADD HL,rr`, `INC rr`, `DEC rr` (R135). -/
inductive Pair where
  | bc | de | hl | sp
deriving DecidableEq, Repr

/-- The pairs the field `p` names in `PUSH` and `POP` (R135). -/
inductive StackPair where
  | bc | de | hl | af
deriving DecidableEq, Repr

/-- The conditions (R136). -/
inductive Cond where
  | nz | z | nc | c
deriving DecidableEq, Repr

/-- The eight operations on A (R137). -/
inductive AluOp where
  | add | adc | sub | sbc | and | xor | or | cp
deriving DecidableEq, Repr

/-- The eight rotates and shifts of the CB space (R137). -/
inductive RotOp where
  | rlc | rrc | rl | rr | sla | sra | swap | srl
deriving DecidableEq, Repr

/-- The eight restart targets (45_control.md R292), by their index `y`. -/
abbrev RstIndex := Fin 8

/-- The number of a bit in `BIT`, `RES`, `SET` (R141): the field `y`. -/
abbrev BitIndex := Fin 8

/-- The instructions: one constructor per row of the opcode table. -/
inductive Instr where
  /-- `LD BC,d16` (01), R191. -/
  | ldBcD16 (v : Word)
  /-- `LD B,d8` (06), R161. -/
  | ldBD8 (n : Byte)
  /-- `LD (a16),SP` (08), R193. -/
  | ldMemA16Sp (v : Word)
  /-- `LD C,d8` (0E), R161. -/
  | ldCD8 (n : Byte)
  /-- `STOP` (10), R304. -/
  | stop (n : Byte)
  /-- `LD DE,d16` (11), R191. -/
  | ldDeD16 (v : Word)
  /-- `LD D,d8` (16), R161. -/
  | ldDD8 (n : Byte)
  /-- `JR e8` (18), R284. -/
  | jrE8 (e : Byte)
  /-- `LD E,d8` (1E), R161. -/
  | ldED8 (n : Byte)
  /-- `JR NZ,e8` (20), R285. -/
  | jrNzE8 (e : Byte)
  /-- `LD HL,d16` (21), R191. -/
  | ldHlD16 (v : Word)
  /-- `LD H,d8` (26), R161. -/
  | ldHD8 (n : Byte)
  /-- `JR Z,e8` (28), R285. -/
  | jrZE8 (e : Byte)
  /-- `LD L,d8` (2E), R161. -/
  | ldLD8 (n : Byte)
  /-- `JR NC,e8` (30), R285. -/
  | jrNcE8 (e : Byte)
  /-- `LD SP,d16` (31), R191. -/
  | ldSpD16 (v : Word)
  /-- `LD (HL),d8` (36), R164. -/
  | ldMemHlD8 (n : Byte)
  /-- `JR C,e8` (38), R285. -/
  | jrCE8 (e : Byte)
  /-- `LD A,d8` (3E), R161. -/
  | ldAD8 (n : Byte)
  /-- `JP NZ,a16` (C2), R282. -/
  | jpNzA16 (v : Word)
  /-- `JP a16` (C3), R281. -/
  | jpA16 (v : Word)
  /-- `CALL NZ,a16` (C4), R287. -/
  | callNzA16 (v : Word)
  /-- `ADD A,d8` (C6), R203. -/
  | addAD8 (n : Byte)
  /-- `JP Z,a16` (CA), R282. -/
  | jpZA16 (v : Word)
  /-- `CALL Z,a16` (CC), R287. -/
  | callZA16 (v : Word)
  /-- `CALL a16` (CD), R286. -/
  | callA16 (v : Word)
  /-- `ADC A,d8` (CE), R206. -/
  | adcAD8 (n : Byte)
  /-- `JP NC,a16` (D2), R282. -/
  | jpNcA16 (v : Word)
  /-- `CALL NC,a16` (D4), R287. -/
  | callNcA16 (v : Word)
  /-- `SUB d8` (D6), R209. -/
  | subD8 (n : Byte)
  /-- `JP C,a16` (DA), R282. -/
  | jpCA16 (v : Word)
  /-- `CALL C,a16` (DC), R287. -/
  | callCA16 (v : Word)
  /-- `SBC A,d8` (DE), R212. -/
  | sbcAD8 (n : Byte)
  /-- `LDH (a8),A` (E0), R175. -/
  | ldhMemA8A (n : Byte)
  /-- `AND d8` (E6), R215. -/
  | andD8 (n : Byte)
  /-- `ADD SP,e8` (E8), R243. -/
  | addSpE8 (e : Byte)
  /-- `LD (a16),A` (EA), R170. -/
  | ldMemA16A (v : Word)
  /-- `XOR d8` (EE), R218. -/
  | xorD8 (n : Byte)
  /-- `LDH A,(a8)` (F0), R176. -/
  | ldhAMemA8 (n : Byte)
  /-- `OR d8` (F6), R221. -/
  | orD8 (n : Byte)
  /-- `LD HL,SP+e8` (F8), R196. -/
  | ldHlSpE8 (e : Byte)
  /-- `LD A,(a16)` (FA), R169. -/
  | ldAMemA16 (v : Word)
  /-- `CP d8` (FE), R224. -/
  | cpD8 (n : Byte)
  /-- `NOP` (00), R300. -/
  | nop
  /-- `LD (BC),A` (02), R167. -/
  | ldMemBcA
  /-- `INC BC` (03), R241. -/
  | incBc
  /-- `INC B` (04), R225. -/
  | incB
  /-- `DEC B` (05), R227. -/
  | decB
  /-- `RLCA` (07), R250. -/
  | rlca
  /-- `ADD HL,BC` (09), R240. -/
  | addHlBc
  /-- `LD A,(BC)` (0A), R165. -/
  | ldAMemBc
  /-- `DEC BC` (0B), R242. -/
  | decBc
  /-- `INC C` (0C), R225. -/
  | incC
  /-- `DEC C` (0D), R227. -/
  | decC
  /-- `RRCA` (0F), R251. -/
  | rrca
  /-- `LD (DE),A` (12), R168. -/
  | ldMemDeA
  /-- `INC DE` (13), R241. -/
  | incDe
  /-- `INC D` (14), R225. -/
  | incD
  /-- `DEC D` (15), R227. -/
  | decD
  /-- `RLA` (17), R252. -/
  | rla
  /-- `ADD HL,DE` (19), R240. -/
  | addHlDe
  /-- `LD A,(DE)` (1A), R166. -/
  | ldAMemDe
  /-- `DEC DE` (1B), R242. -/
  | decDe
  /-- `INC E` (1C), R225. -/
  | incE
  /-- `DEC E` (1D), R227. -/
  | decE
  /-- `RRA` (1F), R253. -/
  | rra
  /-- `LD (HL+),A` (22), R171. -/
  | ldMemHlIncA
  /-- `INC HL` (23), R241. -/
  | incHl
  /-- `INC H` (24), R225. -/
  | incH
  /-- `DEC H` (25), R227. -/
  | decH
  /-- `DAA` (27), R229. -/
  | daa
  /-- `ADD HL,HL` (29), R240. -/
  | addHlHl
  /-- `LD A,(HL+)` (2A), R173. -/
  | ldAMemHlInc
  /-- `DEC HL` (2B), R242. -/
  | decHl
  /-- `INC L` (2C), R225. -/
  | incL
  /-- `DEC L` (2D), R227. -/
  | decL
  /-- `CPL` (2F), R230. -/
  | cpl
  /-- `LD (HL-),A` (32), R172. -/
  | ldMemHlDecA
  /-- `INC SP` (33), R241. -/
  | incSp
  /-- `INC (HL)` (34), R226. -/
  | incMemHl
  /-- `DEC (HL)` (35), R228. -/
  | decMemHl
  /-- `SCF` (37), R231. -/
  | scf
  /-- `ADD HL,SP` (39), R240. -/
  | addHlSp
  /-- `LD A,(HL-)` (3A), R174. -/
  | ldAMemHlDec
  /-- `DEC SP` (3B), R242. -/
  | decSp
  /-- `INC A` (3C), R225. -/
  | incA
  /-- `DEC A` (3D), R227. -/
  | decA
  /-- `CCF` (3F), R232. -/
  | ccf
  /-- `LD B,B` (40), R160. -/
  | ldBB
  /-- `LD B,C` (41), R160. -/
  | ldBC
  /-- `LD B,D` (42), R160. -/
  | ldBD
  /-- `LD B,E` (43), R160. -/
  | ldBE
  /-- `LD B,H` (44), R160. -/
  | ldBH
  /-- `LD B,L` (45), R160. -/
  | ldBL
  /-- `LD B,(HL)` (46), R162. -/
  | ldBMemHl
  /-- `LD B,A` (47), R160. -/
  | ldBA
  /-- `LD C,B` (48), R160. -/
  | ldCB
  /-- `LD C,C` (49), R160. -/
  | ldCC
  /-- `LD C,D` (4A), R160. -/
  | ldCD
  /-- `LD C,E` (4B), R160. -/
  | ldCE
  /-- `LD C,H` (4C), R160. -/
  | ldCH
  /-- `LD C,L` (4D), R160. -/
  | ldCL
  /-- `LD C,(HL)` (4E), R162. -/
  | ldCMemHl
  /-- `LD C,A` (4F), R160. -/
  | ldCA
  /-- `LD D,B` (50), R160. -/
  | ldDB
  /-- `LD D,C` (51), R160. -/
  | ldDC
  /-- `LD D,D` (52), R160. -/
  | ldDD
  /-- `LD D,E` (53), R160. -/
  | ldDE
  /-- `LD D,H` (54), R160. -/
  | ldDH
  /-- `LD D,L` (55), R160. -/
  | ldDL
  /-- `LD D,(HL)` (56), R162. -/
  | ldDMemHl
  /-- `LD D,A` (57), R160. -/
  | ldDA
  /-- `LD E,B` (58), R160. -/
  | ldEB
  /-- `LD E,C` (59), R160. -/
  | ldEC
  /-- `LD E,D` (5A), R160. -/
  | ldED
  /-- `LD E,E` (5B), R160. -/
  | ldEE
  /-- `LD E,H` (5C), R160. -/
  | ldEH
  /-- `LD E,L` (5D), R160. -/
  | ldEL
  /-- `LD E,(HL)` (5E), R162. -/
  | ldEMemHl
  /-- `LD E,A` (5F), R160. -/
  | ldEA
  /-- `LD H,B` (60), R160. -/
  | ldHB
  /-- `LD H,C` (61), R160. -/
  | ldHC
  /-- `LD H,D` (62), R160. -/
  | ldHD
  /-- `LD H,E` (63), R160. -/
  | ldHE
  /-- `LD H,H` (64), R160. -/
  | ldHH
  /-- `LD H,L` (65), R160. -/
  | ldHL
  /-- `LD H,(HL)` (66), R162. -/
  | ldHMemHl
  /-- `LD H,A` (67), R160. -/
  | ldHA
  /-- `LD L,B` (68), R160. -/
  | ldLB
  /-- `LD L,C` (69), R160. -/
  | ldLC
  /-- `LD L,D` (6A), R160. -/
  | ldLD
  /-- `LD L,E` (6B), R160. -/
  | ldLE
  /-- `LD L,H` (6C), R160. -/
  | ldLH
  /-- `LD L,L` (6D), R160. -/
  | ldLL
  /-- `LD L,(HL)` (6E), R162. -/
  | ldLMemHl
  /-- `LD L,A` (6F), R160. -/
  | ldLA
  /-- `LD (HL),B` (70), R163. -/
  | ldMemHlB
  /-- `LD (HL),C` (71), R163. -/
  | ldMemHlC
  /-- `LD (HL),D` (72), R163. -/
  | ldMemHlD
  /-- `LD (HL),E` (73), R163. -/
  | ldMemHlE
  /-- `LD (HL),H` (74), R163. -/
  | ldMemHlH
  /-- `LD (HL),L` (75), R163. -/
  | ldMemHlL
  /-- `HALT` (76), R301. -/
  | halt
  /-- `LD (HL),A` (77), R163. -/
  | ldMemHlA
  /-- `LD A,B` (78), R160. -/
  | ldAB
  /-- `LD A,C` (79), R160. -/
  | ldAC
  /-- `LD A,D` (7A), R160. -/
  | ldAD
  /-- `LD A,E` (7B), R160. -/
  | ldAE
  /-- `LD A,H` (7C), R160. -/
  | ldAH
  /-- `LD A,L` (7D), R160. -/
  | ldAL
  /-- `LD A,(HL)` (7E), R162. -/
  | ldAMemHl
  /-- `LD A,A` (7F), R160. -/
  | ldAA
  /-- `ADD A,B` (80), R201. -/
  | addAB
  /-- `ADD A,C` (81), R201. -/
  | addAC
  /-- `ADD A,D` (82), R201. -/
  | addAD
  /-- `ADD A,E` (83), R201. -/
  | addAE
  /-- `ADD A,H` (84), R201. -/
  | addAH
  /-- `ADD A,L` (85), R201. -/
  | addAL
  /-- `ADD A,(HL)` (86), R202. -/
  | addAMemHl
  /-- `ADD A,A` (87), R201. -/
  | addAA
  /-- `ADC A,B` (88), R204. -/
  | adcAB
  /-- `ADC A,C` (89), R204. -/
  | adcAC
  /-- `ADC A,D` (8A), R204. -/
  | adcAD
  /-- `ADC A,E` (8B), R204. -/
  | adcAE
  /-- `ADC A,H` (8C), R204. -/
  | adcAH
  /-- `ADC A,L` (8D), R204. -/
  | adcAL
  /-- `ADC A,(HL)` (8E), R205. -/
  | adcAMemHl
  /-- `ADC A,A` (8F), R204. -/
  | adcAA
  /-- `SUB B` (90), R207. -/
  | subB
  /-- `SUB C` (91), R207. -/
  | subC
  /-- `SUB D` (92), R207. -/
  | subD
  /-- `SUB E` (93), R207. -/
  | subE
  /-- `SUB H` (94), R207. -/
  | subH
  /-- `SUB L` (95), R207. -/
  | subL
  /-- `SUB (HL)` (96), R208. -/
  | subMemHl
  /-- `SUB A` (97), R207. -/
  | subA
  /-- `SBC A,B` (98), R210. -/
  | sbcAB
  /-- `SBC A,C` (99), R210. -/
  | sbcAC
  /-- `SBC A,D` (9A), R210. -/
  | sbcAD
  /-- `SBC A,E` (9B), R210. -/
  | sbcAE
  /-- `SBC A,H` (9C), R210. -/
  | sbcAH
  /-- `SBC A,L` (9D), R210. -/
  | sbcAL
  /-- `SBC A,(HL)` (9E), R211. -/
  | sbcAMemHl
  /-- `SBC A,A` (9F), R210. -/
  | sbcAA
  /-- `AND B` (A0), R213. -/
  | andB
  /-- `AND C` (A1), R213. -/
  | andC
  /-- `AND D` (A2), R213. -/
  | andD
  /-- `AND E` (A3), R213. -/
  | andE
  /-- `AND H` (A4), R213. -/
  | andH
  /-- `AND L` (A5), R213. -/
  | andL
  /-- `AND (HL)` (A6), R214. -/
  | andMemHl
  /-- `AND A` (A7), R213. -/
  | andA
  /-- `XOR B` (A8), R216. -/
  | xorB
  /-- `XOR C` (A9), R216. -/
  | xorC
  /-- `XOR D` (AA), R216. -/
  | xorD
  /-- `XOR E` (AB), R216. -/
  | xorE
  /-- `XOR H` (AC), R216. -/
  | xorH
  /-- `XOR L` (AD), R216. -/
  | xorL
  /-- `XOR (HL)` (AE), R217. -/
  | xorMemHl
  /-- `XOR A` (AF), R216. -/
  | xorA
  /-- `OR B` (B0), R219. -/
  | orB
  /-- `OR C` (B1), R219. -/
  | orC
  /-- `OR D` (B2), R219. -/
  | orD
  /-- `OR E` (B3), R219. -/
  | orE
  /-- `OR H` (B4), R219. -/
  | orH
  /-- `OR L` (B5), R219. -/
  | orL
  /-- `OR (HL)` (B6), R220. -/
  | orMemHl
  /-- `OR A` (B7), R219. -/
  | orA
  /-- `CP B` (B8), R222. -/
  | cpB
  /-- `CP C` (B9), R222. -/
  | cpC
  /-- `CP D` (BA), R222. -/
  | cpD
  /-- `CP E` (BB), R222. -/
  | cpE
  /-- `CP H` (BC), R222. -/
  | cpH
  /-- `CP L` (BD), R222. -/
  | cpL
  /-- `CP (HL)` (BE), R223. -/
  | cpMemHl
  /-- `CP A` (BF), R222. -/
  | cpA
  /-- `RET NZ` (C0), R289. -/
  | retNz
  /-- `POP BC` (C1), R195. -/
  | popBc
  /-- `PUSH BC` (C5), R194. -/
  | pushBc
  /-- `RST 00H` (C7), R292. -/
  | rst00
  /-- `RET Z` (C8), R289. -/
  | retZ
  /-- `RET` (C9), R288. -/
  | ret
  /-- `PREFIX CB` (CB), R306. -/
  | prefixCb
  /-- `RST 08H` (CF), R292. -/
  | rst08
  /-- `RET NC` (D0), R289. -/
  | retNc
  /-- `POP DE` (D1), R195. -/
  | popDe
  /-- `UNDEF_D3` (D3), R305. -/
  | undefD3
  /-- `PUSH DE` (D5), R194. -/
  | pushDe
  /-- `RST 10H` (D7), R292. -/
  | rst10
  /-- `RET C` (D8), R289. -/
  | retC
  /-- `RETI` (D9), R290. -/
  | reti
  /-- `UNDEF_DB` (DB), R305. -/
  | undefDB
  /-- `UNDEF_DD` (DD), R305. -/
  | undefDD
  /-- `RST 18H` (DF), R292. -/
  | rst18
  /-- `POP HL` (E1), R195. -/
  | popHl
  /-- `LD (C),A` (E2), R177. -/
  | ldMemCA
  /-- `UNDEF_E3` (E3), R305. -/
  | undefE3
  /-- `UNDEF_E4` (E4), R305. -/
  | undefE4
  /-- `PUSH HL` (E5), R194. -/
  | pushHl
  /-- `RST 20H` (E7), R292. -/
  | rst20
  /-- `JP HL` (E9), R283. -/
  | jpHl
  /-- `UNDEF_EB` (EB), R305. -/
  | undefEB
  /-- `UNDEF_EC` (EC), R305. -/
  | undefEC
  /-- `UNDEF_ED` (ED), R305. -/
  | undefED
  /-- `RST 28H` (EF), R292. -/
  | rst28
  /-- `POP AF` (F1), R195. -/
  | popAf
  /-- `LD A,(C)` (F2), R178. -/
  | ldAMemC
  /-- `DI` (F3), R302. -/
  | di
  /-- `UNDEF_F4` (F4), R305. -/
  | undefF4
  /-- `PUSH AF` (F5), R194. -/
  | pushAf
  /-- `RST 30H` (F7), R292. -/
  | rst30
  /-- `LD SP,HL` (F9), R192. -/
  | ldSpHl
  /-- `EI` (FB), R303. -/
  | ei
  /-- `UNDEF_FC` (FC), R305. -/
  | undefFC
  /-- `UNDEF_FD` (FD), R305. -/
  | undefFD
  /-- `RST 38H` (FF), R292. -/
  | rst38
  /-- `RLC B` (CB 00), R255. -/
  | rlcB
  /-- `RLC C` (CB 01), R255. -/
  | rlcC
  /-- `RLC D` (CB 02), R255. -/
  | rlcD
  /-- `RLC E` (CB 03), R255. -/
  | rlcE
  /-- `RLC H` (CB 04), R255. -/
  | rlcH
  /-- `RLC L` (CB 05), R255. -/
  | rlcL
  /-- `RLC (HL)` (CB 06), R256. -/
  | rlcMemHl
  /-- `RLC A` (CB 07), R255. -/
  | rlcA
  /-- `RRC B` (CB 08), R257. -/
  | rrcB
  /-- `RRC C` (CB 09), R257. -/
  | rrcC
  /-- `RRC D` (CB 0A), R257. -/
  | rrcD
  /-- `RRC E` (CB 0B), R257. -/
  | rrcE
  /-- `RRC H` (CB 0C), R257. -/
  | rrcH
  /-- `RRC L` (CB 0D), R257. -/
  | rrcL
  /-- `RRC (HL)` (CB 0E), R258. -/
  | rrcMemHl
  /-- `RRC A` (CB 0F), R257. -/
  | rrcA
  /-- `RL B` (CB 10), R259. -/
  | rlB
  /-- `RL C` (CB 11), R259. -/
  | rlC
  /-- `RL D` (CB 12), R259. -/
  | rlD
  /-- `RL E` (CB 13), R259. -/
  | rlE
  /-- `RL H` (CB 14), R259. -/
  | rlH
  /-- `RL L` (CB 15), R259. -/
  | rlL
  /-- `RL (HL)` (CB 16), R260. -/
  | rlMemHl
  /-- `RL A` (CB 17), R259. -/
  | rlA
  /-- `RR B` (CB 18), R261. -/
  | rrB
  /-- `RR C` (CB 19), R261. -/
  | rrC
  /-- `RR D` (CB 1A), R261. -/
  | rrD
  /-- `RR E` (CB 1B), R261. -/
  | rrE
  /-- `RR H` (CB 1C), R261. -/
  | rrH
  /-- `RR L` (CB 1D), R261. -/
  | rrL
  /-- `RR (HL)` (CB 1E), R262. -/
  | rrMemHl
  /-- `RR A` (CB 1F), R261. -/
  | rrA
  /-- `SLA B` (CB 20), R263. -/
  | slaB
  /-- `SLA C` (CB 21), R263. -/
  | slaC
  /-- `SLA D` (CB 22), R263. -/
  | slaD
  /-- `SLA E` (CB 23), R263. -/
  | slaE
  /-- `SLA H` (CB 24), R263. -/
  | slaH
  /-- `SLA L` (CB 25), R263. -/
  | slaL
  /-- `SLA (HL)` (CB 26), R264. -/
  | slaMemHl
  /-- `SLA A` (CB 27), R263. -/
  | slaA
  /-- `SRA B` (CB 28), R265. -/
  | sraB
  /-- `SRA C` (CB 29), R265. -/
  | sraC
  /-- `SRA D` (CB 2A), R265. -/
  | sraD
  /-- `SRA E` (CB 2B), R265. -/
  | sraE
  /-- `SRA H` (CB 2C), R265. -/
  | sraH
  /-- `SRA L` (CB 2D), R265. -/
  | sraL
  /-- `SRA (HL)` (CB 2E), R266. -/
  | sraMemHl
  /-- `SRA A` (CB 2F), R265. -/
  | sraA
  /-- `SWAP B` (CB 30), R267. -/
  | swapB
  /-- `SWAP C` (CB 31), R267. -/
  | swapC
  /-- `SWAP D` (CB 32), R267. -/
  | swapD
  /-- `SWAP E` (CB 33), R267. -/
  | swapE
  /-- `SWAP H` (CB 34), R267. -/
  | swapH
  /-- `SWAP L` (CB 35), R267. -/
  | swapL
  /-- `SWAP (HL)` (CB 36), R268. -/
  | swapMemHl
  /-- `SWAP A` (CB 37), R267. -/
  | swapA
  /-- `SRL B` (CB 38), R269. -/
  | srlB
  /-- `SRL C` (CB 39), R269. -/
  | srlC
  /-- `SRL D` (CB 3A), R269. -/
  | srlD
  /-- `SRL E` (CB 3B), R269. -/
  | srlE
  /-- `SRL H` (CB 3C), R269. -/
  | srlH
  /-- `SRL L` (CB 3D), R269. -/
  | srlL
  /-- `SRL (HL)` (CB 3E), R270. -/
  | srlMemHl
  /-- `SRL A` (CB 3F), R269. -/
  | srlA
  /-- `BIT 0,B` (CB 40), R271. -/
  | bit0B
  /-- `BIT 0,C` (CB 41), R271. -/
  | bit0C
  /-- `BIT 0,D` (CB 42), R271. -/
  | bit0D
  /-- `BIT 0,E` (CB 43), R271. -/
  | bit0E
  /-- `BIT 0,H` (CB 44), R271. -/
  | bit0H
  /-- `BIT 0,L` (CB 45), R271. -/
  | bit0L
  /-- `BIT 0,(HL)` (CB 46), R272. -/
  | bit0MemHl
  /-- `BIT 0,A` (CB 47), R271. -/
  | bit0A
  /-- `BIT 1,B` (CB 48), R271. -/
  | bit1B
  /-- `BIT 1,C` (CB 49), R271. -/
  | bit1C
  /-- `BIT 1,D` (CB 4A), R271. -/
  | bit1D
  /-- `BIT 1,E` (CB 4B), R271. -/
  | bit1E
  /-- `BIT 1,H` (CB 4C), R271. -/
  | bit1H
  /-- `BIT 1,L` (CB 4D), R271. -/
  | bit1L
  /-- `BIT 1,(HL)` (CB 4E), R272. -/
  | bit1MemHl
  /-- `BIT 1,A` (CB 4F), R271. -/
  | bit1A
  /-- `BIT 2,B` (CB 50), R271. -/
  | bit2B
  /-- `BIT 2,C` (CB 51), R271. -/
  | bit2C
  /-- `BIT 2,D` (CB 52), R271. -/
  | bit2D
  /-- `BIT 2,E` (CB 53), R271. -/
  | bit2E
  /-- `BIT 2,H` (CB 54), R271. -/
  | bit2H
  /-- `BIT 2,L` (CB 55), R271. -/
  | bit2L
  /-- `BIT 2,(HL)` (CB 56), R272. -/
  | bit2MemHl
  /-- `BIT 2,A` (CB 57), R271. -/
  | bit2A
  /-- `BIT 3,B` (CB 58), R271. -/
  | bit3B
  /-- `BIT 3,C` (CB 59), R271. -/
  | bit3C
  /-- `BIT 3,D` (CB 5A), R271. -/
  | bit3D
  /-- `BIT 3,E` (CB 5B), R271. -/
  | bit3E
  /-- `BIT 3,H` (CB 5C), R271. -/
  | bit3H
  /-- `BIT 3,L` (CB 5D), R271. -/
  | bit3L
  /-- `BIT 3,(HL)` (CB 5E), R272. -/
  | bit3MemHl
  /-- `BIT 3,A` (CB 5F), R271. -/
  | bit3A
  /-- `BIT 4,B` (CB 60), R271. -/
  | bit4B
  /-- `BIT 4,C` (CB 61), R271. -/
  | bit4C
  /-- `BIT 4,D` (CB 62), R271. -/
  | bit4D
  /-- `BIT 4,E` (CB 63), R271. -/
  | bit4E
  /-- `BIT 4,H` (CB 64), R271. -/
  | bit4H
  /-- `BIT 4,L` (CB 65), R271. -/
  | bit4L
  /-- `BIT 4,(HL)` (CB 66), R272. -/
  | bit4MemHl
  /-- `BIT 4,A` (CB 67), R271. -/
  | bit4A
  /-- `BIT 5,B` (CB 68), R271. -/
  | bit5B
  /-- `BIT 5,C` (CB 69), R271. -/
  | bit5C
  /-- `BIT 5,D` (CB 6A), R271. -/
  | bit5D
  /-- `BIT 5,E` (CB 6B), R271. -/
  | bit5E
  /-- `BIT 5,H` (CB 6C), R271. -/
  | bit5H
  /-- `BIT 5,L` (CB 6D), R271. -/
  | bit5L
  /-- `BIT 5,(HL)` (CB 6E), R272. -/
  | bit5MemHl
  /-- `BIT 5,A` (CB 6F), R271. -/
  | bit5A
  /-- `BIT 6,B` (CB 70), R271. -/
  | bit6B
  /-- `BIT 6,C` (CB 71), R271. -/
  | bit6C
  /-- `BIT 6,D` (CB 72), R271. -/
  | bit6D
  /-- `BIT 6,E` (CB 73), R271. -/
  | bit6E
  /-- `BIT 6,H` (CB 74), R271. -/
  | bit6H
  /-- `BIT 6,L` (CB 75), R271. -/
  | bit6L
  /-- `BIT 6,(HL)` (CB 76), R272. -/
  | bit6MemHl
  /-- `BIT 6,A` (CB 77), R271. -/
  | bit6A
  /-- `BIT 7,B` (CB 78), R271. -/
  | bit7B
  /-- `BIT 7,C` (CB 79), R271. -/
  | bit7C
  /-- `BIT 7,D` (CB 7A), R271. -/
  | bit7D
  /-- `BIT 7,E` (CB 7B), R271. -/
  | bit7E
  /-- `BIT 7,H` (CB 7C), R271. -/
  | bit7H
  /-- `BIT 7,L` (CB 7D), R271. -/
  | bit7L
  /-- `BIT 7,(HL)` (CB 7E), R272. -/
  | bit7MemHl
  /-- `BIT 7,A` (CB 7F), R271. -/
  | bit7A
  /-- `RES 0,B` (CB 80), R273. -/
  | res0B
  /-- `RES 0,C` (CB 81), R273. -/
  | res0C
  /-- `RES 0,D` (CB 82), R273. -/
  | res0D
  /-- `RES 0,E` (CB 83), R273. -/
  | res0E
  /-- `RES 0,H` (CB 84), R273. -/
  | res0H
  /-- `RES 0,L` (CB 85), R273. -/
  | res0L
  /-- `RES 0,(HL)` (CB 86), R274. -/
  | res0MemHl
  /-- `RES 0,A` (CB 87), R273. -/
  | res0A
  /-- `RES 1,B` (CB 88), R273. -/
  | res1B
  /-- `RES 1,C` (CB 89), R273. -/
  | res1C
  /-- `RES 1,D` (CB 8A), R273. -/
  | res1D
  /-- `RES 1,E` (CB 8B), R273. -/
  | res1E
  /-- `RES 1,H` (CB 8C), R273. -/
  | res1H
  /-- `RES 1,L` (CB 8D), R273. -/
  | res1L
  /-- `RES 1,(HL)` (CB 8E), R274. -/
  | res1MemHl
  /-- `RES 1,A` (CB 8F), R273. -/
  | res1A
  /-- `RES 2,B` (CB 90), R273. -/
  | res2B
  /-- `RES 2,C` (CB 91), R273. -/
  | res2C
  /-- `RES 2,D` (CB 92), R273. -/
  | res2D
  /-- `RES 2,E` (CB 93), R273. -/
  | res2E
  /-- `RES 2,H` (CB 94), R273. -/
  | res2H
  /-- `RES 2,L` (CB 95), R273. -/
  | res2L
  /-- `RES 2,(HL)` (CB 96), R274. -/
  | res2MemHl
  /-- `RES 2,A` (CB 97), R273. -/
  | res2A
  /-- `RES 3,B` (CB 98), R273. -/
  | res3B
  /-- `RES 3,C` (CB 99), R273. -/
  | res3C
  /-- `RES 3,D` (CB 9A), R273. -/
  | res3D
  /-- `RES 3,E` (CB 9B), R273. -/
  | res3E
  /-- `RES 3,H` (CB 9C), R273. -/
  | res3H
  /-- `RES 3,L` (CB 9D), R273. -/
  | res3L
  /-- `RES 3,(HL)` (CB 9E), R274. -/
  | res3MemHl
  /-- `RES 3,A` (CB 9F), R273. -/
  | res3A
  /-- `RES 4,B` (CB A0), R273. -/
  | res4B
  /-- `RES 4,C` (CB A1), R273. -/
  | res4C
  /-- `RES 4,D` (CB A2), R273. -/
  | res4D
  /-- `RES 4,E` (CB A3), R273. -/
  | res4E
  /-- `RES 4,H` (CB A4), R273. -/
  | res4H
  /-- `RES 4,L` (CB A5), R273. -/
  | res4L
  /-- `RES 4,(HL)` (CB A6), R274. -/
  | res4MemHl
  /-- `RES 4,A` (CB A7), R273. -/
  | res4A
  /-- `RES 5,B` (CB A8), R273. -/
  | res5B
  /-- `RES 5,C` (CB A9), R273. -/
  | res5C
  /-- `RES 5,D` (CB AA), R273. -/
  | res5D
  /-- `RES 5,E` (CB AB), R273. -/
  | res5E
  /-- `RES 5,H` (CB AC), R273. -/
  | res5H
  /-- `RES 5,L` (CB AD), R273. -/
  | res5L
  /-- `RES 5,(HL)` (CB AE), R274. -/
  | res5MemHl
  /-- `RES 5,A` (CB AF), R273. -/
  | res5A
  /-- `RES 6,B` (CB B0), R273. -/
  | res6B
  /-- `RES 6,C` (CB B1), R273. -/
  | res6C
  /-- `RES 6,D` (CB B2), R273. -/
  | res6D
  /-- `RES 6,E` (CB B3), R273. -/
  | res6E
  /-- `RES 6,H` (CB B4), R273. -/
  | res6H
  /-- `RES 6,L` (CB B5), R273. -/
  | res6L
  /-- `RES 6,(HL)` (CB B6), R274. -/
  | res6MemHl
  /-- `RES 6,A` (CB B7), R273. -/
  | res6A
  /-- `RES 7,B` (CB B8), R273. -/
  | res7B
  /-- `RES 7,C` (CB B9), R273. -/
  | res7C
  /-- `RES 7,D` (CB BA), R273. -/
  | res7D
  /-- `RES 7,E` (CB BB), R273. -/
  | res7E
  /-- `RES 7,H` (CB BC), R273. -/
  | res7H
  /-- `RES 7,L` (CB BD), R273. -/
  | res7L
  /-- `RES 7,(HL)` (CB BE), R274. -/
  | res7MemHl
  /-- `RES 7,A` (CB BF), R273. -/
  | res7A
  /-- `SET 0,B` (CB C0), R275. -/
  | set0B
  /-- `SET 0,C` (CB C1), R275. -/
  | set0C
  /-- `SET 0,D` (CB C2), R275. -/
  | set0D
  /-- `SET 0,E` (CB C3), R275. -/
  | set0E
  /-- `SET 0,H` (CB C4), R275. -/
  | set0H
  /-- `SET 0,L` (CB C5), R275. -/
  | set0L
  /-- `SET 0,(HL)` (CB C6), R276. -/
  | set0MemHl
  /-- `SET 0,A` (CB C7), R275. -/
  | set0A
  /-- `SET 1,B` (CB C8), R275. -/
  | set1B
  /-- `SET 1,C` (CB C9), R275. -/
  | set1C
  /-- `SET 1,D` (CB CA), R275. -/
  | set1D
  /-- `SET 1,E` (CB CB), R275. -/
  | set1E
  /-- `SET 1,H` (CB CC), R275. -/
  | set1H
  /-- `SET 1,L` (CB CD), R275. -/
  | set1L
  /-- `SET 1,(HL)` (CB CE), R276. -/
  | set1MemHl
  /-- `SET 1,A` (CB CF), R275. -/
  | set1A
  /-- `SET 2,B` (CB D0), R275. -/
  | set2B
  /-- `SET 2,C` (CB D1), R275. -/
  | set2C
  /-- `SET 2,D` (CB D2), R275. -/
  | set2D
  /-- `SET 2,E` (CB D3), R275. -/
  | set2E
  /-- `SET 2,H` (CB D4), R275. -/
  | set2H
  /-- `SET 2,L` (CB D5), R275. -/
  | set2L
  /-- `SET 2,(HL)` (CB D6), R276. -/
  | set2MemHl
  /-- `SET 2,A` (CB D7), R275. -/
  | set2A
  /-- `SET 3,B` (CB D8), R275. -/
  | set3B
  /-- `SET 3,C` (CB D9), R275. -/
  | set3C
  /-- `SET 3,D` (CB DA), R275. -/
  | set3D
  /-- `SET 3,E` (CB DB), R275. -/
  | set3E
  /-- `SET 3,H` (CB DC), R275. -/
  | set3H
  /-- `SET 3,L` (CB DD), R275. -/
  | set3L
  /-- `SET 3,(HL)` (CB DE), R276. -/
  | set3MemHl
  /-- `SET 3,A` (CB DF), R275. -/
  | set3A
  /-- `SET 4,B` (CB E0), R275. -/
  | set4B
  /-- `SET 4,C` (CB E1), R275. -/
  | set4C
  /-- `SET 4,D` (CB E2), R275. -/
  | set4D
  /-- `SET 4,E` (CB E3), R275. -/
  | set4E
  /-- `SET 4,H` (CB E4), R275. -/
  | set4H
  /-- `SET 4,L` (CB E5), R275. -/
  | set4L
  /-- `SET 4,(HL)` (CB E6), R276. -/
  | set4MemHl
  /-- `SET 4,A` (CB E7), R275. -/
  | set4A
  /-- `SET 5,B` (CB E8), R275. -/
  | set5B
  /-- `SET 5,C` (CB E9), R275. -/
  | set5C
  /-- `SET 5,D` (CB EA), R275. -/
  | set5D
  /-- `SET 5,E` (CB EB), R275. -/
  | set5E
  /-- `SET 5,H` (CB EC), R275. -/
  | set5H
  /-- `SET 5,L` (CB ED), R275. -/
  | set5L
  /-- `SET 5,(HL)` (CB EE), R276. -/
  | set5MemHl
  /-- `SET 5,A` (CB EF), R275. -/
  | set5A
  /-- `SET 6,B` (CB F0), R275. -/
  | set6B
  /-- `SET 6,C` (CB F1), R275. -/
  | set6C
  /-- `SET 6,D` (CB F2), R275. -/
  | set6D
  /-- `SET 6,E` (CB F3), R275. -/
  | set6E
  /-- `SET 6,H` (CB F4), R275. -/
  | set6H
  /-- `SET 6,L` (CB F5), R275. -/
  | set6L
  /-- `SET 6,(HL)` (CB F6), R276. -/
  | set6MemHl
  /-- `SET 6,A` (CB F7), R275. -/
  | set6A
  /-- `SET 7,B` (CB F8), R275. -/
  | set7B
  /-- `SET 7,C` (CB F9), R275. -/
  | set7C
  /-- `SET 7,D` (CB FA), R275. -/
  | set7D
  /-- `SET 7,E` (CB FB), R275. -/
  | set7E
  /-- `SET 7,H` (CB FC), R275. -/
  | set7H
  /-- `SET 7,L` (CB FD), R275. -/
  | set7L
  /-- `SET 7,(HL)` (CB FE), R276. -/
  | set7MemHl
  /-- `SET 7,A` (CB FF), R275. -/
  | set7A
deriving DecidableEq, Repr

/-! ## Families -/

/-- `LD r,r'` (R160). -/
def Instr.ldRR : Reg8 → Reg8 → Instr
  | .b, .b => .ldBB
  | .b, .c => .ldBC
  | .b, .d => .ldBD
  | .b, .e => .ldBE
  | .b, .h => .ldBH
  | .b, .l => .ldBL
  | .b, .a => .ldBA
  | .c, .b => .ldCB
  | .c, .c => .ldCC
  | .c, .d => .ldCD
  | .c, .e => .ldCE
  | .c, .h => .ldCH
  | .c, .l => .ldCL
  | .c, .a => .ldCA
  | .d, .b => .ldDB
  | .d, .c => .ldDC
  | .d, .d => .ldDD
  | .d, .e => .ldDE
  | .d, .h => .ldDH
  | .d, .l => .ldDL
  | .d, .a => .ldDA
  | .e, .b => .ldEB
  | .e, .c => .ldEC
  | .e, .d => .ldED
  | .e, .e => .ldEE
  | .e, .h => .ldEH
  | .e, .l => .ldEL
  | .e, .a => .ldEA
  | .h, .b => .ldHB
  | .h, .c => .ldHC
  | .h, .d => .ldHD
  | .h, .e => .ldHE
  | .h, .h => .ldHH
  | .h, .l => .ldHL
  | .h, .a => .ldHA
  | .l, .b => .ldLB
  | .l, .c => .ldLC
  | .l, .d => .ldLD
  | .l, .e => .ldLE
  | .l, .h => .ldLH
  | .l, .l => .ldLL
  | .l, .a => .ldLA
  | .a, .b => .ldAB
  | .a, .c => .ldAC
  | .a, .d => .ldAD
  | .a, .e => .ldAE
  | .a, .h => .ldAH
  | .a, .l => .ldAL
  | .a, .a => .ldAA

/-- `LD r,d8` (R161). -/
def Instr.ldRN : Reg8 → (Byte → Instr)
  | .b => .ldBD8
  | .c => .ldCD8
  | .d => .ldDD8
  | .e => .ldED8
  | .h => .ldHD8
  | .l => .ldLD8
  | .a => .ldAD8

/-- `LD r,(HL)` (R162). -/
def Instr.ldRHl : Reg8 → Instr
  | .b => .ldBMemHl
  | .c => .ldCMemHl
  | .d => .ldDMemHl
  | .e => .ldEMemHl
  | .h => .ldHMemHl
  | .l => .ldLMemHl
  | .a => .ldAMemHl

/-- `LD (HL),r` (R163). -/
def Instr.ldHlR : Reg8 → Instr
  | .b => .ldMemHlB
  | .c => .ldMemHlC
  | .d => .ldMemHlD
  | .e => .ldMemHlE
  | .h => .ldMemHlH
  | .l => .ldMemHlL
  | .a => .ldMemHlA

/-- `LD rr,d16` (R191). -/
def Instr.ldPairNN : Pair → (Word → Instr)
  | .bc => .ldBcD16
  | .de => .ldDeD16
  | .hl => .ldHlD16
  | .sp => .ldSpD16

/-- `PUSH rr` (R194). -/
def Instr.push : StackPair → Instr
  | .bc => .pushBc
  | .de => .pushDe
  | .hl => .pushHl
  | .af => .pushAf

/-- `POP rr` (R195). -/
def Instr.pop : StackPair → Instr
  | .bc => .popBc
  | .de => .popDe
  | .hl => .popHl
  | .af => .popAf

/-- The eight operations on A with a register operand (R201, R204, R207, R210, R213, R216, R219, R222). -/
def Instr.aluR : AluOp → Reg8 → Instr
  | .add, .b => .addAB
  | .add, .c => .addAC
  | .add, .d => .addAD
  | .add, .e => .addAE
  | .add, .h => .addAH
  | .add, .l => .addAL
  | .add, .a => .addAA
  | .adc, .b => .adcAB
  | .adc, .c => .adcAC
  | .adc, .d => .adcAD
  | .adc, .e => .adcAE
  | .adc, .h => .adcAH
  | .adc, .l => .adcAL
  | .adc, .a => .adcAA
  | .sub, .b => .subB
  | .sub, .c => .subC
  | .sub, .d => .subD
  | .sub, .e => .subE
  | .sub, .h => .subH
  | .sub, .l => .subL
  | .sub, .a => .subA
  | .sbc, .b => .sbcAB
  | .sbc, .c => .sbcAC
  | .sbc, .d => .sbcAD
  | .sbc, .e => .sbcAE
  | .sbc, .h => .sbcAH
  | .sbc, .l => .sbcAL
  | .sbc, .a => .sbcAA
  | .and, .b => .andB
  | .and, .c => .andC
  | .and, .d => .andD
  | .and, .e => .andE
  | .and, .h => .andH
  | .and, .l => .andL
  | .and, .a => .andA
  | .xor, .b => .xorB
  | .xor, .c => .xorC
  | .xor, .d => .xorD
  | .xor, .e => .xorE
  | .xor, .h => .xorH
  | .xor, .l => .xorL
  | .xor, .a => .xorA
  | .or, .b => .orB
  | .or, .c => .orC
  | .or, .d => .orD
  | .or, .e => .orE
  | .or, .h => .orH
  | .or, .l => .orL
  | .or, .a => .orA
  | .cp, .b => .cpB
  | .cp, .c => .cpC
  | .cp, .d => .cpD
  | .cp, .e => .cpE
  | .cp, .h => .cpH
  | .cp, .l => .cpL
  | .cp, .a => .cpA

/-- The eight operations on A with the byte at HL (R202, R205, R208, R211, R214, R217, R220, R223). -/
def Instr.aluHl : AluOp → Instr
  | .add => .addAMemHl
  | .adc => .adcAMemHl
  | .sub => .subMemHl
  | .sbc => .sbcAMemHl
  | .and => .andMemHl
  | .xor => .xorMemHl
  | .or => .orMemHl
  | .cp => .cpMemHl

/-- The eight operations on A with an immediate (R203, R206, R209, R212, R215, R218, R221, R224). -/
def Instr.aluN : AluOp → (Byte → Instr)
  | .add => .addAD8
  | .adc => .adcAD8
  | .sub => .subD8
  | .sbc => .sbcAD8
  | .and => .andD8
  | .xor => .xorD8
  | .or => .orD8
  | .cp => .cpD8

/-- `INC r` (R225). -/
def Instr.incR : Reg8 → Instr
  | .b => .incB
  | .c => .incC
  | .d => .incD
  | .e => .incE
  | .h => .incH
  | .l => .incL
  | .a => .incA

/-- `DEC r` (R227). -/
def Instr.decR : Reg8 → Instr
  | .b => .decB
  | .c => .decC
  | .d => .decD
  | .e => .decE
  | .h => .decH
  | .l => .decL
  | .a => .decA

/-- `ADD HL,rr` (R240). -/
def Instr.addHl : Pair → Instr
  | .bc => .addHlBc
  | .de => .addHlDe
  | .hl => .addHlHl
  | .sp => .addHlSp

/-- `INC rr` (R241). -/
def Instr.incPair : Pair → Instr
  | .bc => .incBc
  | .de => .incDe
  | .hl => .incHl
  | .sp => .incSp

/-- `DEC rr` (R242). -/
def Instr.decPair : Pair → Instr
  | .bc => .decBc
  | .de => .decDe
  | .hl => .decHl
  | .sp => .decSp

/-- `JP cc,a16` (R282). -/
def Instr.jpCc : Cond → (Word → Instr)
  | .nz => .jpNzA16
  | .z => .jpZA16
  | .nc => .jpNcA16
  | .c => .jpCA16

/-- `JR cc,e8` (R285). -/
def Instr.jrCc : Cond → (Byte → Instr)
  | .nz => .jrNzE8
  | .z => .jrZE8
  | .nc => .jrNcE8
  | .c => .jrCE8

/-- `CALL cc,a16` (R287). -/
def Instr.callCc : Cond → (Word → Instr)
  | .nz => .callNzA16
  | .z => .callZA16
  | .nc => .callNcA16
  | .c => .callCA16

/-- `RET cc` (R289). -/
def Instr.retCc : Cond → Instr
  | .nz => .retNz
  | .z => .retZ
  | .nc => .retNc
  | .c => .retC

/-- `RST n` (R292), by the index `y` of the target `8 * y`. -/
def Instr.rst : RstIndex → Instr
  | 0 => .rst00
  | 1 => .rst08
  | 2 => .rst10
  | 3 => .rst18
  | 4 => .rst20
  | 5 => .rst28
  | 6 => .rst30
  | 7 => .rst38

/-- The eight rotates and shifts of a register (R255 to R269). -/
def Instr.rotR : RotOp → Reg8 → Instr
  | .rlc, .b => .rlcB
  | .rlc, .c => .rlcC
  | .rlc, .d => .rlcD
  | .rlc, .e => .rlcE
  | .rlc, .h => .rlcH
  | .rlc, .l => .rlcL
  | .rlc, .a => .rlcA
  | .rrc, .b => .rrcB
  | .rrc, .c => .rrcC
  | .rrc, .d => .rrcD
  | .rrc, .e => .rrcE
  | .rrc, .h => .rrcH
  | .rrc, .l => .rrcL
  | .rrc, .a => .rrcA
  | .rl, .b => .rlB
  | .rl, .c => .rlC
  | .rl, .d => .rlD
  | .rl, .e => .rlE
  | .rl, .h => .rlH
  | .rl, .l => .rlL
  | .rl, .a => .rlA
  | .rr, .b => .rrB
  | .rr, .c => .rrC
  | .rr, .d => .rrD
  | .rr, .e => .rrE
  | .rr, .h => .rrH
  | .rr, .l => .rrL
  | .rr, .a => .rrA
  | .sla, .b => .slaB
  | .sla, .c => .slaC
  | .sla, .d => .slaD
  | .sla, .e => .slaE
  | .sla, .h => .slaH
  | .sla, .l => .slaL
  | .sla, .a => .slaA
  | .sra, .b => .sraB
  | .sra, .c => .sraC
  | .sra, .d => .sraD
  | .sra, .e => .sraE
  | .sra, .h => .sraH
  | .sra, .l => .sraL
  | .sra, .a => .sraA
  | .swap, .b => .swapB
  | .swap, .c => .swapC
  | .swap, .d => .swapD
  | .swap, .e => .swapE
  | .swap, .h => .swapH
  | .swap, .l => .swapL
  | .swap, .a => .swapA
  | .srl, .b => .srlB
  | .srl, .c => .srlC
  | .srl, .d => .srlD
  | .srl, .e => .srlE
  | .srl, .h => .srlH
  | .srl, .l => .srlL
  | .srl, .a => .srlA

/-- The eight rotates and shifts of the byte at HL (R256 to R270). -/
def Instr.rotHl : RotOp → Instr
  | .rlc => .rlcMemHl
  | .rrc => .rrcMemHl
  | .rl => .rlMemHl
  | .rr => .rrMemHl
  | .sla => .slaMemHl
  | .sra => .sraMemHl
  | .swap => .swapMemHl
  | .srl => .srlMemHl

/-- `BIT n,r` (R271). -/
def Instr.bitR : BitIndex → Reg8 → Instr
  | 0, .b => .bit0B
  | 0, .c => .bit0C
  | 0, .d => .bit0D
  | 0, .e => .bit0E
  | 0, .h => .bit0H
  | 0, .l => .bit0L
  | 0, .a => .bit0A
  | 1, .b => .bit1B
  | 1, .c => .bit1C
  | 1, .d => .bit1D
  | 1, .e => .bit1E
  | 1, .h => .bit1H
  | 1, .l => .bit1L
  | 1, .a => .bit1A
  | 2, .b => .bit2B
  | 2, .c => .bit2C
  | 2, .d => .bit2D
  | 2, .e => .bit2E
  | 2, .h => .bit2H
  | 2, .l => .bit2L
  | 2, .a => .bit2A
  | 3, .b => .bit3B
  | 3, .c => .bit3C
  | 3, .d => .bit3D
  | 3, .e => .bit3E
  | 3, .h => .bit3H
  | 3, .l => .bit3L
  | 3, .a => .bit3A
  | 4, .b => .bit4B
  | 4, .c => .bit4C
  | 4, .d => .bit4D
  | 4, .e => .bit4E
  | 4, .h => .bit4H
  | 4, .l => .bit4L
  | 4, .a => .bit4A
  | 5, .b => .bit5B
  | 5, .c => .bit5C
  | 5, .d => .bit5D
  | 5, .e => .bit5E
  | 5, .h => .bit5H
  | 5, .l => .bit5L
  | 5, .a => .bit5A
  | 6, .b => .bit6B
  | 6, .c => .bit6C
  | 6, .d => .bit6D
  | 6, .e => .bit6E
  | 6, .h => .bit6H
  | 6, .l => .bit6L
  | 6, .a => .bit6A
  | 7, .b => .bit7B
  | 7, .c => .bit7C
  | 7, .d => .bit7D
  | 7, .e => .bit7E
  | 7, .h => .bit7H
  | 7, .l => .bit7L
  | 7, .a => .bit7A

/-- `BIT n,(HL)` (R272). -/
def Instr.bitHl : BitIndex → Instr
  | 0 => .bit0MemHl
  | 1 => .bit1MemHl
  | 2 => .bit2MemHl
  | 3 => .bit3MemHl
  | 4 => .bit4MemHl
  | 5 => .bit5MemHl
  | 6 => .bit6MemHl
  | 7 => .bit7MemHl

/-- `RES n,r` (R273). -/
def Instr.resR : BitIndex → Reg8 → Instr
  | 0, .b => .res0B
  | 0, .c => .res0C
  | 0, .d => .res0D
  | 0, .e => .res0E
  | 0, .h => .res0H
  | 0, .l => .res0L
  | 0, .a => .res0A
  | 1, .b => .res1B
  | 1, .c => .res1C
  | 1, .d => .res1D
  | 1, .e => .res1E
  | 1, .h => .res1H
  | 1, .l => .res1L
  | 1, .a => .res1A
  | 2, .b => .res2B
  | 2, .c => .res2C
  | 2, .d => .res2D
  | 2, .e => .res2E
  | 2, .h => .res2H
  | 2, .l => .res2L
  | 2, .a => .res2A
  | 3, .b => .res3B
  | 3, .c => .res3C
  | 3, .d => .res3D
  | 3, .e => .res3E
  | 3, .h => .res3H
  | 3, .l => .res3L
  | 3, .a => .res3A
  | 4, .b => .res4B
  | 4, .c => .res4C
  | 4, .d => .res4D
  | 4, .e => .res4E
  | 4, .h => .res4H
  | 4, .l => .res4L
  | 4, .a => .res4A
  | 5, .b => .res5B
  | 5, .c => .res5C
  | 5, .d => .res5D
  | 5, .e => .res5E
  | 5, .h => .res5H
  | 5, .l => .res5L
  | 5, .a => .res5A
  | 6, .b => .res6B
  | 6, .c => .res6C
  | 6, .d => .res6D
  | 6, .e => .res6E
  | 6, .h => .res6H
  | 6, .l => .res6L
  | 6, .a => .res6A
  | 7, .b => .res7B
  | 7, .c => .res7C
  | 7, .d => .res7D
  | 7, .e => .res7E
  | 7, .h => .res7H
  | 7, .l => .res7L
  | 7, .a => .res7A

/-- `RES n,(HL)` (R274). -/
def Instr.resHl : BitIndex → Instr
  | 0 => .res0MemHl
  | 1 => .res1MemHl
  | 2 => .res2MemHl
  | 3 => .res3MemHl
  | 4 => .res4MemHl
  | 5 => .res5MemHl
  | 6 => .res6MemHl
  | 7 => .res7MemHl

/-- `SET n,r` (R275). -/
def Instr.setR : BitIndex → Reg8 → Instr
  | 0, .b => .set0B
  | 0, .c => .set0C
  | 0, .d => .set0D
  | 0, .e => .set0E
  | 0, .h => .set0H
  | 0, .l => .set0L
  | 0, .a => .set0A
  | 1, .b => .set1B
  | 1, .c => .set1C
  | 1, .d => .set1D
  | 1, .e => .set1E
  | 1, .h => .set1H
  | 1, .l => .set1L
  | 1, .a => .set1A
  | 2, .b => .set2B
  | 2, .c => .set2C
  | 2, .d => .set2D
  | 2, .e => .set2E
  | 2, .h => .set2H
  | 2, .l => .set2L
  | 2, .a => .set2A
  | 3, .b => .set3B
  | 3, .c => .set3C
  | 3, .d => .set3D
  | 3, .e => .set3E
  | 3, .h => .set3H
  | 3, .l => .set3L
  | 3, .a => .set3A
  | 4, .b => .set4B
  | 4, .c => .set4C
  | 4, .d => .set4D
  | 4, .e => .set4E
  | 4, .h => .set4H
  | 4, .l => .set4L
  | 4, .a => .set4A
  | 5, .b => .set5B
  | 5, .c => .set5C
  | 5, .d => .set5D
  | 5, .e => .set5E
  | 5, .h => .set5H
  | 5, .l => .set5L
  | 5, .a => .set5A
  | 6, .b => .set6B
  | 6, .c => .set6C
  | 6, .d => .set6D
  | 6, .e => .set6E
  | 6, .h => .set6H
  | 6, .l => .set6L
  | 6, .a => .set6A
  | 7, .b => .set7B
  | 7, .c => .set7C
  | 7, .d => .set7D
  | 7, .e => .set7E
  | 7, .h => .set7H
  | 7, .l => .set7L
  | 7, .a => .set7A

/-- `SET n,(HL)` (R276). -/
def Instr.setHl : BitIndex → Instr
  | 0 => .set0MemHl
  | 1 => .set1MemHl
  | 2 => .set2MemHl
  | 3 => .set3MemHl
  | 4 => .set4MemHl
  | 5 => .set5MemHl
  | 6 => .set6MemHl
  | 7 => .set7MemHl

end Sys2Proof
end

