-- ==== Sys2Proof/WellFormed.lean ====
section
/-! DEFINITION. Which terms of `Instr` are whole instructions. Every operand a constructor holds is legal at every
value (spec/30_encoding.md R145: there is no reserved field), so the one check is that the term is not the bare
prefix: "The prefix and the second byte form one instruction" (46_system.md R306; R131 counts `0xCB` as no
instruction). -/

namespace Sys2Proof

/-- The term is a whole instruction: not the bare prefix `0xCB` (R131, R306). -/
def Instr.wellFormed (i : Instr) : Bool :=
  i != .prefixCb

end Sys2Proof
end

