-- ==== Sys2Proof/Decode.lean ====
section
/-! DEFINITION. From bytes to an instruction and back (spec/30_encoding.md). The two tables stand in the order of the
opcode (R131): row `n` of the primary table is R142's row `n`, row `n` of the CB table is R143's. -/

namespace Sys2Proof

/-! ## Bytes and words -/

/-- `hi ++ lo` (00_scope.md R12): the 16-bit value of two bytes. -/
def join (hi lo : Byte) : Word := hi ++ lo

/-- `v[15:8]`. -/
def hiByte (v : Word) : Byte := v.extractLsb' 8 8

/-- `v[7:0]`. -/
def loByte (v : Word) : Byte := v.extractLsb' 0 8

/-- `sext_16` (00_scope.md R13): a byte sign-extended to 16 bits. -/
def sext16 (b : Byte) : Word := b.signExtend 16

/-! ## The tables -/

/-- A row of the primary table: how many operand bytes follow (R130) and the instruction they make (R141). -/
inductive Row where
  /-- `OP`: no operand. -/
  | one (i : Instr)
  /-- `OP_D8`, `OP_A8`, `OP_E8`: one operand byte. -/
  | imm8 (f : Byte → Instr)
  /-- `OP_D16`, `OP_A16`: two operand bytes, the low one first (R141). -/
  | imm16 (f : Word → Instr)
  /-- `0xCB`: a second opcode byte follows (R131). -/
  | cbPrefix

/-- Opcodes 00 to 0F of `primaryTable`. -/
def primaryTable0 : List Row :=
  [.one .nop, .imm16 .ldBcD16, .one .ldMemBcA, .one .incBc, .one .incB, .one .decB, .imm8 .ldBD8, .one .rlca,
    .imm16 .ldMemA16Sp, .one .addHlBc, .one .ldAMemBc, .one .decBc, .one .incC, .one .decC, .imm8 .ldCD8,
    .one .rrca]

/-- Opcodes 10 to 1F of `primaryTable`. -/
def primaryTable1 : List Row :=
  [.imm8 .stop, .imm16 .ldDeD16, .one .ldMemDeA, .one .incDe, .one .incD, .one .decD, .imm8 .ldDD8, .one .rla,
    .imm8 .jrE8, .one .addHlDe, .one .ldAMemDe, .one .decDe, .one .incE, .one .decE, .imm8 .ldED8, .one .rra]

/-- Opcodes 20 to 2F of `primaryTable`. -/
def primaryTable2 : List Row :=
  [.imm8 .jrNzE8, .imm16 .ldHlD16, .one .ldMemHlIncA, .one .incHl, .one .incH, .one .decH, .imm8 .ldHD8,
    .one .daa, .imm8 .jrZE8, .one .addHlHl, .one .ldAMemHlInc, .one .decHl, .one .incL, .one .decL,
    .imm8 .ldLD8, .one .cpl]

/-- Opcodes 30 to 3F of `primaryTable`. -/
def primaryTable3 : List Row :=
  [.imm8 .jrNcE8, .imm16 .ldSpD16, .one .ldMemHlDecA, .one .incSp, .one .incMemHl, .one .decMemHl,
    .imm8 .ldMemHlD8, .one .scf, .imm8 .jrCE8, .one .addHlSp, .one .ldAMemHlDec, .one .decSp, .one .incA,
    .one .decA, .imm8 .ldAD8, .one .ccf]

/-- Opcodes 40 to 4F of `primaryTable`. -/
def primaryTable4 : List Row :=
  [.one .ldBB, .one .ldBC, .one .ldBD, .one .ldBE, .one .ldBH, .one .ldBL, .one .ldBMemHl, .one .ldBA,
    .one .ldCB, .one .ldCC, .one .ldCD, .one .ldCE, .one .ldCH, .one .ldCL, .one .ldCMemHl, .one .ldCA]

/-- Opcodes 50 to 5F of `primaryTable`. -/
def primaryTable5 : List Row :=
  [.one .ldDB, .one .ldDC, .one .ldDD, .one .ldDE, .one .ldDH, .one .ldDL, .one .ldDMemHl, .one .ldDA,
    .one .ldEB, .one .ldEC, .one .ldED, .one .ldEE, .one .ldEH, .one .ldEL, .one .ldEMemHl, .one .ldEA]

/-- Opcodes 60 to 6F of `primaryTable`. -/
def primaryTable6 : List Row :=
  [.one .ldHB, .one .ldHC, .one .ldHD, .one .ldHE, .one .ldHH, .one .ldHL, .one .ldHMemHl, .one .ldHA,
    .one .ldLB, .one .ldLC, .one .ldLD, .one .ldLE, .one .ldLH, .one .ldLL, .one .ldLMemHl, .one .ldLA]

/-- Opcodes 70 to 7F of `primaryTable`. -/
def primaryTable7 : List Row :=
  [.one .ldMemHlB, .one .ldMemHlC, .one .ldMemHlD, .one .ldMemHlE, .one .ldMemHlH, .one .ldMemHlL, .one .halt,
    .one .ldMemHlA, .one .ldAB, .one .ldAC, .one .ldAD, .one .ldAE, .one .ldAH, .one .ldAL, .one .ldAMemHl,
    .one .ldAA]

/-- Opcodes 80 to 8F of `primaryTable`. -/
def primaryTable8 : List Row :=
  [.one .addAB, .one .addAC, .one .addAD, .one .addAE, .one .addAH, .one .addAL, .one .addAMemHl, .one .addAA,
    .one .adcAB, .one .adcAC, .one .adcAD, .one .adcAE, .one .adcAH, .one .adcAL, .one .adcAMemHl, .one .adcAA]

/-- Opcodes 90 to 9F of `primaryTable`. -/
def primaryTable9 : List Row :=
  [.one .subB, .one .subC, .one .subD, .one .subE, .one .subH, .one .subL, .one .subMemHl, .one .subA,
    .one .sbcAB, .one .sbcAC, .one .sbcAD, .one .sbcAE, .one .sbcAH, .one .sbcAL, .one .sbcAMemHl, .one .sbcAA]

/-- Opcodes A0 to AF of `primaryTable`. -/
def primaryTableA : List Row :=
  [.one .andB, .one .andC, .one .andD, .one .andE, .one .andH, .one .andL, .one .andMemHl, .one .andA,
    .one .xorB, .one .xorC, .one .xorD, .one .xorE, .one .xorH, .one .xorL, .one .xorMemHl, .one .xorA]

/-- Opcodes B0 to BF of `primaryTable`. -/
def primaryTableB : List Row :=
  [.one .orB, .one .orC, .one .orD, .one .orE, .one .orH, .one .orL, .one .orMemHl, .one .orA, .one .cpB,
    .one .cpC, .one .cpD, .one .cpE, .one .cpH, .one .cpL, .one .cpMemHl, .one .cpA]

/-- Opcodes C0 to CF of `primaryTable`. -/
def primaryTableC : List Row :=
  [.one .retNz, .one .popBc, .imm16 .jpNzA16, .imm16 .jpA16, .imm16 .callNzA16, .one .pushBc, .imm8 .addAD8,
    .one .rst00, .one .retZ, .one .ret, .imm16 .jpZA16, .cbPrefix, .imm16 .callZA16, .imm16 .callA16,
    .imm8 .adcAD8, .one .rst08]

/-- Opcodes D0 to DF of `primaryTable`. -/
def primaryTableD : List Row :=
  [.one .retNc, .one .popDe, .imm16 .jpNcA16, .one .undefD3, .imm16 .callNcA16, .one .pushDe, .imm8 .subD8,
    .one .rst10, .one .retC, .one .reti, .imm16 .jpCA16, .one .undefDB, .imm16 .callCA16, .one .undefDD,
    .imm8 .sbcAD8, .one .rst18]

/-- Opcodes E0 to EF of `primaryTable`. -/
def primaryTableE : List Row :=
  [.imm8 .ldhMemA8A, .one .popHl, .one .ldMemCA, .one .undefE3, .one .undefE4, .one .pushHl, .imm8 .andD8,
    .one .rst20, .imm8 .addSpE8, .one .jpHl, .imm16 .ldMemA16A, .one .undefEB, .one .undefEC, .one .undefED,
    .imm8 .xorD8, .one .rst28]

/-- Opcodes F0 to FF of `primaryTable`. -/
def primaryTableF : List Row :=
  [.imm8 .ldhAMemA8, .one .popAf, .one .ldAMemC, .one .di, .one .undefF4, .one .pushAf, .imm8 .orD8,
    .one .rst30, .imm8 .ldHlSpE8, .one .ldSpHl, .imm16 .ldAMemA16, .one .ei, .one .undefFC, .one .undefFD,
    .imm8 .cpD8, .one .rst38]

/-- The primary map (R142) as a matrix: line `n / 16`, entry `n % 16` is the row of opcode `n`. -/
def primaryTable : List (List Row) :=
  [primaryTable0, primaryTable1, primaryTable2, primaryTable3, primaryTable4, primaryTable5,
   primaryTable6, primaryTable7, primaryTable8, primaryTable9, primaryTableA, primaryTableB,
   primaryTableC, primaryTableD, primaryTableE, primaryTableF]

/-- Opcodes 00 to 0F of `cbTable`. -/
def cbTable0 : List Instr :=
  [.rlcB, .rlcC, .rlcD, .rlcE, .rlcH, .rlcL, .rlcMemHl, .rlcA, .rrcB, .rrcC, .rrcD, .rrcE, .rrcH, .rrcL,
    .rrcMemHl, .rrcA]

/-- Opcodes 10 to 1F of `cbTable`. -/
def cbTable1 : List Instr :=
  [.rlB, .rlC, .rlD, .rlE, .rlH, .rlL, .rlMemHl, .rlA, .rrB, .rrC, .rrD, .rrE, .rrH, .rrL, .rrMemHl, .rrA]

/-- Opcodes 20 to 2F of `cbTable`. -/
def cbTable2 : List Instr :=
  [.slaB, .slaC, .slaD, .slaE, .slaH, .slaL, .slaMemHl, .slaA, .sraB, .sraC, .sraD, .sraE, .sraH, .sraL,
    .sraMemHl, .sraA]

/-- Opcodes 30 to 3F of `cbTable`. -/
def cbTable3 : List Instr :=
  [.swapB, .swapC, .swapD, .swapE, .swapH, .swapL, .swapMemHl, .swapA, .srlB, .srlC, .srlD, .srlE, .srlH,
    .srlL, .srlMemHl, .srlA]

/-- Opcodes 40 to 4F of `cbTable`. -/
def cbTable4 : List Instr :=
  [.bit0B, .bit0C, .bit0D, .bit0E, .bit0H, .bit0L, .bit0MemHl, .bit0A, .bit1B, .bit1C, .bit1D, .bit1E, .bit1H,
    .bit1L, .bit1MemHl, .bit1A]

/-- Opcodes 50 to 5F of `cbTable`. -/
def cbTable5 : List Instr :=
  [.bit2B, .bit2C, .bit2D, .bit2E, .bit2H, .bit2L, .bit2MemHl, .bit2A, .bit3B, .bit3C, .bit3D, .bit3E, .bit3H,
    .bit3L, .bit3MemHl, .bit3A]

/-- Opcodes 60 to 6F of `cbTable`. -/
def cbTable6 : List Instr :=
  [.bit4B, .bit4C, .bit4D, .bit4E, .bit4H, .bit4L, .bit4MemHl, .bit4A, .bit5B, .bit5C, .bit5D, .bit5E, .bit5H,
    .bit5L, .bit5MemHl, .bit5A]

/-- Opcodes 70 to 7F of `cbTable`. -/
def cbTable7 : List Instr :=
  [.bit6B, .bit6C, .bit6D, .bit6E, .bit6H, .bit6L, .bit6MemHl, .bit6A, .bit7B, .bit7C, .bit7D, .bit7E, .bit7H,
    .bit7L, .bit7MemHl, .bit7A]

/-- Opcodes 80 to 8F of `cbTable`. -/
def cbTable8 : List Instr :=
  [.res0B, .res0C, .res0D, .res0E, .res0H, .res0L, .res0MemHl, .res0A, .res1B, .res1C, .res1D, .res1E, .res1H,
    .res1L, .res1MemHl, .res1A]

/-- Opcodes 90 to 9F of `cbTable`. -/
def cbTable9 : List Instr :=
  [.res2B, .res2C, .res2D, .res2E, .res2H, .res2L, .res2MemHl, .res2A, .res3B, .res3C, .res3D, .res3E, .res3H,
    .res3L, .res3MemHl, .res3A]

/-- Opcodes A0 to AF of `cbTable`. -/
def cbTableA : List Instr :=
  [.res4B, .res4C, .res4D, .res4E, .res4H, .res4L, .res4MemHl, .res4A, .res5B, .res5C, .res5D, .res5E, .res5H,
    .res5L, .res5MemHl, .res5A]

/-- Opcodes B0 to BF of `cbTable`. -/
def cbTableB : List Instr :=
  [.res6B, .res6C, .res6D, .res6E, .res6H, .res6L, .res6MemHl, .res6A, .res7B, .res7C, .res7D, .res7E, .res7H,
    .res7L, .res7MemHl, .res7A]

/-- Opcodes C0 to CF of `cbTable`. -/
def cbTableC : List Instr :=
  [.set0B, .set0C, .set0D, .set0E, .set0H, .set0L, .set0MemHl, .set0A, .set1B, .set1C, .set1D, .set1E, .set1H,
    .set1L, .set1MemHl, .set1A]

/-- Opcodes D0 to DF of `cbTable`. -/
def cbTableD : List Instr :=
  [.set2B, .set2C, .set2D, .set2E, .set2H, .set2L, .set2MemHl, .set2A, .set3B, .set3C, .set3D, .set3E, .set3H,
    .set3L, .set3MemHl, .set3A]

/-- Opcodes E0 to EF of `cbTable`. -/
def cbTableE : List Instr :=
  [.set4B, .set4C, .set4D, .set4E, .set4H, .set4L, .set4MemHl, .set4A, .set5B, .set5C, .set5D, .set5E, .set5H,
    .set5L, .set5MemHl, .set5A]

/-- Opcodes F0 to FF of `cbTable`. -/
def cbTableF : List Instr :=
  [.set6B, .set6C, .set6D, .set6E, .set6H, .set6L, .set6MemHl, .set6A, .set7B, .set7C, .set7D, .set7E, .set7H,
    .set7L, .set7MemHl, .set7A]

/-- The CB map (R143) as a matrix: line `n / 16`, entry `n % 16` is the row of second byte `n`. -/
def cbTable : List (List Instr) :=
  [cbTable0, cbTable1, cbTable2, cbTable3, cbTable4, cbTable5,
   cbTable6, cbTable7, cbTable8, cbTable9, cbTableA, cbTableB,
   cbTableC, cbTableD, cbTableE, cbTableF]

/-- The primary row of an opcode byte; the table has 16 lines of 16, so the defaults are never taken. -/
def primaryRow (op : Byte) : Row :=
  (primaryTable.getD (op.toNat / 16) []).getD (op.toNat % 16) (.one .nop)

/-- The CB row of a second byte; the table has 16 lines of 16, so the defaults are never taken. -/
def cbRow (op2 : Byte) : Instr :=
  (cbTable.getD (op2.toNat / 16) []).getD (op2.toNat % 16) .nop

/-! ## Decoding -/

/-- Why bytes do not decode: only by being too few (R131: every value of the bytes is an instruction). -/
inductive DecodeError where
  /-- No byte at all. -/
  | noOpcode
  /-- The operand bytes of this opcode are missing. -/
  | truncated (op : Byte)
deriving DecidableEq, Repr

/-- The instruction at the front of a list of bytes, and the bytes after it (R130, R131, R141). The byte `0xCB`
with no byte after it is the primary table's own row, the bare prefix (notes/assumptions/11). -/
def decode : List Byte → Except DecodeError (Instr × List Byte)
  | [] => .error .noOpcode
  | op :: rest =>
    match primaryRow op with
    | .one i => .ok (i, rest)
    | .imm8 f =>
      match rest with
      | n :: rest => .ok (f n, rest)
      | [] => .error (.truncated op)
    | .imm16 f =>
      match rest with
      | lo :: hi :: rest => .ok (f (join hi lo), rest)
      | _ => .error (.truncated op)
    | .cbPrefix =>
      match rest with
      | op2 :: rest => .ok (cbRow op2, rest)
      | [] => .ok (.prefixCb, [])

/-! ## Encoding -/

/-- The bytes of an instruction (R130, R141, R142, R143). -/
def encode : Instr → List Byte
  | .ldBcD16 v => [0x01, loByte v, hiByte v]
  | .ldBD8 n => [0x06, n]
  | .ldMemA16Sp v => [0x08, loByte v, hiByte v]
  | .ldCD8 n => [0x0E, n]
  | .stop n => [0x10, n]
  | .ldDeD16 v => [0x11, loByte v, hiByte v]
  | .ldDD8 n => [0x16, n]
  | .jrE8 e => [0x18, e]
  | .ldED8 n => [0x1E, n]
  | .jrNzE8 e => [0x20, e]
  | .ldHlD16 v => [0x21, loByte v, hiByte v]
  | .ldHD8 n => [0x26, n]
  | .jrZE8 e => [0x28, e]
  | .ldLD8 n => [0x2E, n]
  | .jrNcE8 e => [0x30, e]
  | .ldSpD16 v => [0x31, loByte v, hiByte v]
  | .ldMemHlD8 n => [0x36, n]
  | .jrCE8 e => [0x38, e]
  | .ldAD8 n => [0x3E, n]
  | .jpNzA16 v => [0xC2, loByte v, hiByte v]
  | .jpA16 v => [0xC3, loByte v, hiByte v]
  | .callNzA16 v => [0xC4, loByte v, hiByte v]
  | .addAD8 n => [0xC6, n]
  | .jpZA16 v => [0xCA, loByte v, hiByte v]
  | .callZA16 v => [0xCC, loByte v, hiByte v]
  | .callA16 v => [0xCD, loByte v, hiByte v]
  | .adcAD8 n => [0xCE, n]
  | .jpNcA16 v => [0xD2, loByte v, hiByte v]
  | .callNcA16 v => [0xD4, loByte v, hiByte v]
  | .subD8 n => [0xD6, n]
  | .jpCA16 v => [0xDA, loByte v, hiByte v]
  | .callCA16 v => [0xDC, loByte v, hiByte v]
  | .sbcAD8 n => [0xDE, n]
  | .ldhMemA8A n => [0xE0, n]
  | .andD8 n => [0xE6, n]
  | .addSpE8 e => [0xE8, e]
  | .ldMemA16A v => [0xEA, loByte v, hiByte v]
  | .xorD8 n => [0xEE, n]
  | .ldhAMemA8 n => [0xF0, n]
  | .orD8 n => [0xF6, n]
  | .ldHlSpE8 e => [0xF8, e]
  | .ldAMemA16 v => [0xFA, loByte v, hiByte v]
  | .cpD8 n => [0xFE, n]
  | .nop => [0x00]
  | .ldMemBcA => [0x02]
  | .incBc => [0x03]
  | .incB => [0x04]
  | .decB => [0x05]
  | .rlca => [0x07]
  | .addHlBc => [0x09]
  | .ldAMemBc => [0x0A]
  | .decBc => [0x0B]
  | .incC => [0x0C]
  | .decC => [0x0D]
  | .rrca => [0x0F]
  | .ldMemDeA => [0x12]
  | .incDe => [0x13]
  | .incD => [0x14]
  | .decD => [0x15]
  | .rla => [0x17]
  | .addHlDe => [0x19]
  | .ldAMemDe => [0x1A]
  | .decDe => [0x1B]
  | .incE => [0x1C]
  | .decE => [0x1D]
  | .rra => [0x1F]
  | .ldMemHlIncA => [0x22]
  | .incHl => [0x23]
  | .incH => [0x24]
  | .decH => [0x25]
  | .daa => [0x27]
  | .addHlHl => [0x29]
  | .ldAMemHlInc => [0x2A]
  | .decHl => [0x2B]
  | .incL => [0x2C]
  | .decL => [0x2D]
  | .cpl => [0x2F]
  | .ldMemHlDecA => [0x32]
  | .incSp => [0x33]
  | .incMemHl => [0x34]
  | .decMemHl => [0x35]
  | .scf => [0x37]
  | .addHlSp => [0x39]
  | .ldAMemHlDec => [0x3A]
  | .decSp => [0x3B]
  | .incA => [0x3C]
  | .decA => [0x3D]
  | .ccf => [0x3F]
  | .ldBB => [0x40]
  | .ldBC => [0x41]
  | .ldBD => [0x42]
  | .ldBE => [0x43]
  | .ldBH => [0x44]
  | .ldBL => [0x45]
  | .ldBMemHl => [0x46]
  | .ldBA => [0x47]
  | .ldCB => [0x48]
  | .ldCC => [0x49]
  | .ldCD => [0x4A]
  | .ldCE => [0x4B]
  | .ldCH => [0x4C]
  | .ldCL => [0x4D]
  | .ldCMemHl => [0x4E]
  | .ldCA => [0x4F]
  | .ldDB => [0x50]
  | .ldDC => [0x51]
  | .ldDD => [0x52]
  | .ldDE => [0x53]
  | .ldDH => [0x54]
  | .ldDL => [0x55]
  | .ldDMemHl => [0x56]
  | .ldDA => [0x57]
  | .ldEB => [0x58]
  | .ldEC => [0x59]
  | .ldED => [0x5A]
  | .ldEE => [0x5B]
  | .ldEH => [0x5C]
  | .ldEL => [0x5D]
  | .ldEMemHl => [0x5E]
  | .ldEA => [0x5F]
  | .ldHB => [0x60]
  | .ldHC => [0x61]
  | .ldHD => [0x62]
  | .ldHE => [0x63]
  | .ldHH => [0x64]
  | .ldHL => [0x65]
  | .ldHMemHl => [0x66]
  | .ldHA => [0x67]
  | .ldLB => [0x68]
  | .ldLC => [0x69]
  | .ldLD => [0x6A]
  | .ldLE => [0x6B]
  | .ldLH => [0x6C]
  | .ldLL => [0x6D]
  | .ldLMemHl => [0x6E]
  | .ldLA => [0x6F]
  | .ldMemHlB => [0x70]
  | .ldMemHlC => [0x71]
  | .ldMemHlD => [0x72]
  | .ldMemHlE => [0x73]
  | .ldMemHlH => [0x74]
  | .ldMemHlL => [0x75]
  | .halt => [0x76]
  | .ldMemHlA => [0x77]
  | .ldAB => [0x78]
  | .ldAC => [0x79]
  | .ldAD => [0x7A]
  | .ldAE => [0x7B]
  | .ldAH => [0x7C]
  | .ldAL => [0x7D]
  | .ldAMemHl => [0x7E]
  | .ldAA => [0x7F]
  | .addAB => [0x80]
  | .addAC => [0x81]
  | .addAD => [0x82]
  | .addAE => [0x83]
  | .addAH => [0x84]
  | .addAL => [0x85]
  | .addAMemHl => [0x86]
  | .addAA => [0x87]
  | .adcAB => [0x88]
  | .adcAC => [0x89]
  | .adcAD => [0x8A]
  | .adcAE => [0x8B]
  | .adcAH => [0x8C]
  | .adcAL => [0x8D]
  | .adcAMemHl => [0x8E]
  | .adcAA => [0x8F]
  | .subB => [0x90]
  | .subC => [0x91]
  | .subD => [0x92]
  | .subE => [0x93]
  | .subH => [0x94]
  | .subL => [0x95]
  | .subMemHl => [0x96]
  | .subA => [0x97]
  | .sbcAB => [0x98]
  | .sbcAC => [0x99]
  | .sbcAD => [0x9A]
  | .sbcAE => [0x9B]
  | .sbcAH => [0x9C]
  | .sbcAL => [0x9D]
  | .sbcAMemHl => [0x9E]
  | .sbcAA => [0x9F]
  | .andB => [0xA0]
  | .andC => [0xA1]
  | .andD => [0xA2]
  | .andE => [0xA3]
  | .andH => [0xA4]
  | .andL => [0xA5]
  | .andMemHl => [0xA6]
  | .andA => [0xA7]
  | .xorB => [0xA8]
  | .xorC => [0xA9]
  | .xorD => [0xAA]
  | .xorE => [0xAB]
  | .xorH => [0xAC]
  | .xorL => [0xAD]
  | .xorMemHl => [0xAE]
  | .xorA => [0xAF]
  | .orB => [0xB0]
  | .orC => [0xB1]
  | .orD => [0xB2]
  | .orE => [0xB3]
  | .orH => [0xB4]
  | .orL => [0xB5]
  | .orMemHl => [0xB6]
  | .orA => [0xB7]
  | .cpB => [0xB8]
  | .cpC => [0xB9]
  | .cpD => [0xBA]
  | .cpE => [0xBB]
  | .cpH => [0xBC]
  | .cpL => [0xBD]
  | .cpMemHl => [0xBE]
  | .cpA => [0xBF]
  | .retNz => [0xC0]
  | .popBc => [0xC1]
  | .pushBc => [0xC5]
  | .rst00 => [0xC7]
  | .retZ => [0xC8]
  | .ret => [0xC9]
  | .prefixCb => [0xCB]
  | .rst08 => [0xCF]
  | .retNc => [0xD0]
  | .popDe => [0xD1]
  | .undefD3 => [0xD3]
  | .pushDe => [0xD5]
  | .rst10 => [0xD7]
  | .retC => [0xD8]
  | .reti => [0xD9]
  | .undefDB => [0xDB]
  | .undefDD => [0xDD]
  | .rst18 => [0xDF]
  | .popHl => [0xE1]
  | .ldMemCA => [0xE2]
  | .undefE3 => [0xE3]
  | .undefE4 => [0xE4]
  | .pushHl => [0xE5]
  | .rst20 => [0xE7]
  | .jpHl => [0xE9]
  | .undefEB => [0xEB]
  | .undefEC => [0xEC]
  | .undefED => [0xED]
  | .rst28 => [0xEF]
  | .popAf => [0xF1]
  | .ldAMemC => [0xF2]
  | .di => [0xF3]
  | .undefF4 => [0xF4]
  | .pushAf => [0xF5]
  | .rst30 => [0xF7]
  | .ldSpHl => [0xF9]
  | .ei => [0xFB]
  | .undefFC => [0xFC]
  | .undefFD => [0xFD]
  | .rst38 => [0xFF]
  | .rlcB => [0xCB, 0x00]
  | .rlcC => [0xCB, 0x01]
  | .rlcD => [0xCB, 0x02]
  | .rlcE => [0xCB, 0x03]
  | .rlcH => [0xCB, 0x04]
  | .rlcL => [0xCB, 0x05]
  | .rlcMemHl => [0xCB, 0x06]
  | .rlcA => [0xCB, 0x07]
  | .rrcB => [0xCB, 0x08]
  | .rrcC => [0xCB, 0x09]
  | .rrcD => [0xCB, 0x0A]
  | .rrcE => [0xCB, 0x0B]
  | .rrcH => [0xCB, 0x0C]
  | .rrcL => [0xCB, 0x0D]
  | .rrcMemHl => [0xCB, 0x0E]
  | .rrcA => [0xCB, 0x0F]
  | .rlB => [0xCB, 0x10]
  | .rlC => [0xCB, 0x11]
  | .rlD => [0xCB, 0x12]
  | .rlE => [0xCB, 0x13]
  | .rlH => [0xCB, 0x14]
  | .rlL => [0xCB, 0x15]
  | .rlMemHl => [0xCB, 0x16]
  | .rlA => [0xCB, 0x17]
  | .rrB => [0xCB, 0x18]
  | .rrC => [0xCB, 0x19]
  | .rrD => [0xCB, 0x1A]
  | .rrE => [0xCB, 0x1B]
  | .rrH => [0xCB, 0x1C]
  | .rrL => [0xCB, 0x1D]
  | .rrMemHl => [0xCB, 0x1E]
  | .rrA => [0xCB, 0x1F]
  | .slaB => [0xCB, 0x20]
  | .slaC => [0xCB, 0x21]
  | .slaD => [0xCB, 0x22]
  | .slaE => [0xCB, 0x23]
  | .slaH => [0xCB, 0x24]
  | .slaL => [0xCB, 0x25]
  | .slaMemHl => [0xCB, 0x26]
  | .slaA => [0xCB, 0x27]
  | .sraB => [0xCB, 0x28]
  | .sraC => [0xCB, 0x29]
  | .sraD => [0xCB, 0x2A]
  | .sraE => [0xCB, 0x2B]
  | .sraH => [0xCB, 0x2C]
  | .sraL => [0xCB, 0x2D]
  | .sraMemHl => [0xCB, 0x2E]
  | .sraA => [0xCB, 0x2F]
  | .swapB => [0xCB, 0x30]
  | .swapC => [0xCB, 0x31]
  | .swapD => [0xCB, 0x32]
  | .swapE => [0xCB, 0x33]
  | .swapH => [0xCB, 0x34]
  | .swapL => [0xCB, 0x35]
  | .swapMemHl => [0xCB, 0x36]
  | .swapA => [0xCB, 0x37]
  | .srlB => [0xCB, 0x38]
  | .srlC => [0xCB, 0x39]
  | .srlD => [0xCB, 0x3A]
  | .srlE => [0xCB, 0x3B]
  | .srlH => [0xCB, 0x3C]
  | .srlL => [0xCB, 0x3D]
  | .srlMemHl => [0xCB, 0x3E]
  | .srlA => [0xCB, 0x3F]
  | .bit0B => [0xCB, 0x40]
  | .bit0C => [0xCB, 0x41]
  | .bit0D => [0xCB, 0x42]
  | .bit0E => [0xCB, 0x43]
  | .bit0H => [0xCB, 0x44]
  | .bit0L => [0xCB, 0x45]
  | .bit0MemHl => [0xCB, 0x46]
  | .bit0A => [0xCB, 0x47]
  | .bit1B => [0xCB, 0x48]
  | .bit1C => [0xCB, 0x49]
  | .bit1D => [0xCB, 0x4A]
  | .bit1E => [0xCB, 0x4B]
  | .bit1H => [0xCB, 0x4C]
  | .bit1L => [0xCB, 0x4D]
  | .bit1MemHl => [0xCB, 0x4E]
  | .bit1A => [0xCB, 0x4F]
  | .bit2B => [0xCB, 0x50]
  | .bit2C => [0xCB, 0x51]
  | .bit2D => [0xCB, 0x52]
  | .bit2E => [0xCB, 0x53]
  | .bit2H => [0xCB, 0x54]
  | .bit2L => [0xCB, 0x55]
  | .bit2MemHl => [0xCB, 0x56]
  | .bit2A => [0xCB, 0x57]
  | .bit3B => [0xCB, 0x58]
  | .bit3C => [0xCB, 0x59]
  | .bit3D => [0xCB, 0x5A]
  | .bit3E => [0xCB, 0x5B]
  | .bit3H => [0xCB, 0x5C]
  | .bit3L => [0xCB, 0x5D]
  | .bit3MemHl => [0xCB, 0x5E]
  | .bit3A => [0xCB, 0x5F]
  | .bit4B => [0xCB, 0x60]
  | .bit4C => [0xCB, 0x61]
  | .bit4D => [0xCB, 0x62]
  | .bit4E => [0xCB, 0x63]
  | .bit4H => [0xCB, 0x64]
  | .bit4L => [0xCB, 0x65]
  | .bit4MemHl => [0xCB, 0x66]
  | .bit4A => [0xCB, 0x67]
  | .bit5B => [0xCB, 0x68]
  | .bit5C => [0xCB, 0x69]
  | .bit5D => [0xCB, 0x6A]
  | .bit5E => [0xCB, 0x6B]
  | .bit5H => [0xCB, 0x6C]
  | .bit5L => [0xCB, 0x6D]
  | .bit5MemHl => [0xCB, 0x6E]
  | .bit5A => [0xCB, 0x6F]
  | .bit6B => [0xCB, 0x70]
  | .bit6C => [0xCB, 0x71]
  | .bit6D => [0xCB, 0x72]
  | .bit6E => [0xCB, 0x73]
  | .bit6H => [0xCB, 0x74]
  | .bit6L => [0xCB, 0x75]
  | .bit6MemHl => [0xCB, 0x76]
  | .bit6A => [0xCB, 0x77]
  | .bit7B => [0xCB, 0x78]
  | .bit7C => [0xCB, 0x79]
  | .bit7D => [0xCB, 0x7A]
  | .bit7E => [0xCB, 0x7B]
  | .bit7H => [0xCB, 0x7C]
  | .bit7L => [0xCB, 0x7D]
  | .bit7MemHl => [0xCB, 0x7E]
  | .bit7A => [0xCB, 0x7F]
  | .res0B => [0xCB, 0x80]
  | .res0C => [0xCB, 0x81]
  | .res0D => [0xCB, 0x82]
  | .res0E => [0xCB, 0x83]
  | .res0H => [0xCB, 0x84]
  | .res0L => [0xCB, 0x85]
  | .res0MemHl => [0xCB, 0x86]
  | .res0A => [0xCB, 0x87]
  | .res1B => [0xCB, 0x88]
  | .res1C => [0xCB, 0x89]
  | .res1D => [0xCB, 0x8A]
  | .res1E => [0xCB, 0x8B]
  | .res1H => [0xCB, 0x8C]
  | .res1L => [0xCB, 0x8D]
  | .res1MemHl => [0xCB, 0x8E]
  | .res1A => [0xCB, 0x8F]
  | .res2B => [0xCB, 0x90]
  | .res2C => [0xCB, 0x91]
  | .res2D => [0xCB, 0x92]
  | .res2E => [0xCB, 0x93]
  | .res2H => [0xCB, 0x94]
  | .res2L => [0xCB, 0x95]
  | .res2MemHl => [0xCB, 0x96]
  | .res2A => [0xCB, 0x97]
  | .res3B => [0xCB, 0x98]
  | .res3C => [0xCB, 0x99]
  | .res3D => [0xCB, 0x9A]
  | .res3E => [0xCB, 0x9B]
  | .res3H => [0xCB, 0x9C]
  | .res3L => [0xCB, 0x9D]
  | .res3MemHl => [0xCB, 0x9E]
  | .res3A => [0xCB, 0x9F]
  | .res4B => [0xCB, 0xA0]
  | .res4C => [0xCB, 0xA1]
  | .res4D => [0xCB, 0xA2]
  | .res4E => [0xCB, 0xA3]
  | .res4H => [0xCB, 0xA4]
  | .res4L => [0xCB, 0xA5]
  | .res4MemHl => [0xCB, 0xA6]
  | .res4A => [0xCB, 0xA7]
  | .res5B => [0xCB, 0xA8]
  | .res5C => [0xCB, 0xA9]
  | .res5D => [0xCB, 0xAA]
  | .res5E => [0xCB, 0xAB]
  | .res5H => [0xCB, 0xAC]
  | .res5L => [0xCB, 0xAD]
  | .res5MemHl => [0xCB, 0xAE]
  | .res5A => [0xCB, 0xAF]
  | .res6B => [0xCB, 0xB0]
  | .res6C => [0xCB, 0xB1]
  | .res6D => [0xCB, 0xB2]
  | .res6E => [0xCB, 0xB3]
  | .res6H => [0xCB, 0xB4]
  | .res6L => [0xCB, 0xB5]
  | .res6MemHl => [0xCB, 0xB6]
  | .res6A => [0xCB, 0xB7]
  | .res7B => [0xCB, 0xB8]
  | .res7C => [0xCB, 0xB9]
  | .res7D => [0xCB, 0xBA]
  | .res7E => [0xCB, 0xBB]
  | .res7H => [0xCB, 0xBC]
  | .res7L => [0xCB, 0xBD]
  | .res7MemHl => [0xCB, 0xBE]
  | .res7A => [0xCB, 0xBF]
  | .set0B => [0xCB, 0xC0]
  | .set0C => [0xCB, 0xC1]
  | .set0D => [0xCB, 0xC2]
  | .set0E => [0xCB, 0xC3]
  | .set0H => [0xCB, 0xC4]
  | .set0L => [0xCB, 0xC5]
  | .set0MemHl => [0xCB, 0xC6]
  | .set0A => [0xCB, 0xC7]
  | .set1B => [0xCB, 0xC8]
  | .set1C => [0xCB, 0xC9]
  | .set1D => [0xCB, 0xCA]
  | .set1E => [0xCB, 0xCB]
  | .set1H => [0xCB, 0xCC]
  | .set1L => [0xCB, 0xCD]
  | .set1MemHl => [0xCB, 0xCE]
  | .set1A => [0xCB, 0xCF]
  | .set2B => [0xCB, 0xD0]
  | .set2C => [0xCB, 0xD1]
  | .set2D => [0xCB, 0xD2]
  | .set2E => [0xCB, 0xD3]
  | .set2H => [0xCB, 0xD4]
  | .set2L => [0xCB, 0xD5]
  | .set2MemHl => [0xCB, 0xD6]
  | .set2A => [0xCB, 0xD7]
  | .set3B => [0xCB, 0xD8]
  | .set3C => [0xCB, 0xD9]
  | .set3D => [0xCB, 0xDA]
  | .set3E => [0xCB, 0xDB]
  | .set3H => [0xCB, 0xDC]
  | .set3L => [0xCB, 0xDD]
  | .set3MemHl => [0xCB, 0xDE]
  | .set3A => [0xCB, 0xDF]
  | .set4B => [0xCB, 0xE0]
  | .set4C => [0xCB, 0xE1]
  | .set4D => [0xCB, 0xE2]
  | .set4E => [0xCB, 0xE3]
  | .set4H => [0xCB, 0xE4]
  | .set4L => [0xCB, 0xE5]
  | .set4MemHl => [0xCB, 0xE6]
  | .set4A => [0xCB, 0xE7]
  | .set5B => [0xCB, 0xE8]
  | .set5C => [0xCB, 0xE9]
  | .set5D => [0xCB, 0xEA]
  | .set5E => [0xCB, 0xEB]
  | .set5H => [0xCB, 0xEC]
  | .set5L => [0xCB, 0xED]
  | .set5MemHl => [0xCB, 0xEE]
  | .set5A => [0xCB, 0xEF]
  | .set6B => [0xCB, 0xF0]
  | .set6C => [0xCB, 0xF1]
  | .set6D => [0xCB, 0xF2]
  | .set6E => [0xCB, 0xF3]
  | .set6H => [0xCB, 0xF4]
  | .set6L => [0xCB, 0xF5]
  | .set6MemHl => [0xCB, 0xF6]
  | .set6A => [0xCB, 0xF7]
  | .set7B => [0xCB, 0xF8]
  | .set7C => [0xCB, 0xF9]
  | .set7D => [0xCB, 0xFA]
  | .set7E => [0xCB, 0xFB]
  | .set7H => [0xCB, 0xFC]
  | .set7L => [0xCB, 0xFD]
  | .set7MemHl => [0xCB, 0xFE]
  | .set7A => [0xCB, 0xFF]

/-- How many bytes an instruction has (R146); of the bare prefix, its one byte. -/
def Instr.length (i : Instr) : Nat := (encode i).length

/-- The row of the opcode map an instruction stands in: 0 to 255 the primary map, 256 to 511 the CB map. -/
def Instr.row (i : Instr) : Nat :=
  match encode i with
  | [] => 0
  | [op] => op.toNat
  | op :: n :: _ => if op = 0xCB then 256 + n.toNat else op.toNat

/-! ## The table's numbering -/

/-- The bytes, in ascending addresses, of a word numbered as spec/opcode_table.json numbers it, with every bit above
`nbits` zero, up to the longest instruction. The table writes a CB row as one 16-bit number with the prefix, which is
the FIRST byte in memory (R131), in bits 15 to 8; any other word counts its bytes from bit 0 upwards
(notes/assumptions/12). -/
def tableBytes (nbits w : Nat) : List Byte :=
  let w := w % 2 ^ nbits
  if nbits = 16 ∧ w / 256 = 0xCB then
    [0xCB, BitVec.ofNat 8 w, 0]
  else
    [BitVec.ofNat 8 w, BitVec.ofNat 8 (w / 256), BitVec.ofNat 8 (w / 65536)]

/-- The instruction the decoder reads from a word of the opcode table. -/
def decodeTableWord (nbits w : Nat) : Option Instr :=
  match decode (tableBytes nbits w) with
  | .ok (i, _) => some i
  | .error _ => none

end Sys2Proof
end

