-- ==== Sys2Proof/Config.lean ====
section
/-! DEFINITION. What is fixed for a machine: the sizes of spec/00_scope.md R6 and the parameters of R7 that
are plain choices (the cartridge parameters ROM, MBC_KIND and RAM_LEN are in Machine/State.lean, `Cartridge`). -/

namespace Sys2Proof

/-- What a byte of memory that nothing has written and no image has filled reads as: RESET_MEM's default
(R7, R60, decision D36). DESIGN CHOICE, unsafe: notes/assumptions/2. -/
def Config.unlistedByte : Byte := 0x00

/-- Size of VRAM in bytes (R6). -/
def Config.vramSize : Nat := 8192
/-- Size of work RAM in bytes (R6). -/
def Config.wramSize : Nat := 8192
/-- Size of OAM in bytes (R6). -/
def Config.oamSize : Nat := 160
/-- Size of high RAM in bytes (R6). -/
def Config.hramSize : Nat := 127
/-- Pixels of a row (R6). -/
def Config.screenWidth : Nat := 160
/-- Visible rows (R6). -/
def Config.screenHeight : Nat := 144
/-- Cycles of a scanline (R6, R340). -/
def Config.rowCycles : Nat := 456
/-- Cycles of a frame (R6, R340). -/
def Config.frameCycles : Nat := 70224
/-- The smallest cartridge image the machine accepts (R100, R404). -/
def Config.minRomLen : Nat := 0x8000

/-- UNDEF_POLICY (R7, R305): what the 11 undefined opcodes do. -/
inductive UndefPolicy where
  /-- One byte, no effect, 4 cycles (the default). -/
  | nop
  /-- The CPU has no further step. -/
  | stuck
deriving DecidableEq, Repr

/-- One entry of the parameter Cost (R7, R140) that differs from the default table: the row of the opcode map
(0 to 255 primary, 256 to 511 the CB space), whether the instruction's condition holds, and the cycles. -/
structure CostEntry where
  row    : Nat
  taken  : Bool
  cycles : Nat
deriving DecidableEq, Repr

/-- The parameters of R7 that are not the cartridge: no rule writes them. -/
structure Params where
  /-- IRQ_ADVANCES_TIMER (R316): whether the 20 cycles of interrupt service reach the timer. -/
  irqAdvancesTimer : Bool
  /-- UNDEF_POLICY (R305). -/
  undefPolicy : UndefPolicy
  /-- LYC_IRQ_EDGE (R349): whether the LY=LYC request is made only where the match begins. -/
  lycIrqEdge : Bool
  /-- Cost (R140): the entries that differ from the default table; the first that fits counts. -/
  costs : List CostEntry
deriving DecidableEq, Repr

/-- Every parameter at the default R7 gives it. -/
def Params.default : Params :=
  { irqAdvancesTimer := true, undefPolicy := .nop, lycIrqEdge := false, costs := [] }

end Sys2Proof
end

