-- ==== Sys2Proof/Machine/State.lean ====
section
/-! DEFINITION. The state of the machine as plain data (spec/10_state.md), the reasons a step can stop, and the
state after reset (10_state.md R60, 70_reset_and_hazards.md R400). -/

namespace Sys2Proof.Machine

/-- A memory: (offset, byte) pairs, offsets strictly rising, no entry equal to what an unlisted offset reads as
(`Config.unlistedByte`). Offsets count from the first byte of that memory, as the spec indexes `WRAM[...]`. -/
abbrev Memory := List Host.Cell

/-- The four flags of `F` (R21): Z bit 7, N bit 6, H bit 5, C bit 4; bits 3 to 0 are always 0. -/
structure Flags where
  z : Bool
  n : Bool
  h : Bool
  c : Bool
deriving DecidableEq, Repr

/-- The CPU's registers (R20 to R25). -/
structure Cpu where
  a : Byte
  f : Flags
  b : Byte
  c : Byte
  d : Byte
  e : Byte
  h : Byte
  l : Byte
  sp : Word
  pc : Word
  /-- Suspended until an interrupt (R25). -/
  halt : Bool
  /-- The interrupt master enable (R25). -/
  ime : Bool
deriving DecidableEq, Repr

/-- The timer and divider (R31 to R34) with its two hidden cycle counts (R52). -/
structure Timer where
  div : Byte
  tima : Byte
  tma : Byte
  /-- The three stored bits of `TAC` (R34). -/
  tac : BitVec 3
  divTimer : Nat
  timer : Nat
deriving DecidableEq, Repr

/-- An entry of the row priority buffer (R51). -/
inductive PriSlot where
  | undrawn | background | sprite
deriving DecidableEq, Repr

/-- The picture unit: its registers (R36 to R43), counter (R53) and memories (R47, R48, R50, R51). -/
structure Ppu where
  lcdc : Byte
  /-- The seven stored bits of `STAT` (R37). -/
  stat : BitVec 7
  scy : Byte
  scx : Byte
  ly : Byte
  lyc : Byte
  bgp : Byte
  obp0 : Byte
  obp1 : Byte
  wy : Byte
  wx : Byte
  /-- `ppu_cycles` (R53). -/
  cycles : Nat
  vram : Memory
  oam : Memory
  /-- The framebuffer (R50): entry `row * 160 + x`. -/
  fb : Memory
  pri : Vector PriSlot 160
deriving DecidableEq, Repr

/-- The four control registers of MBC1 (R54). -/
structure Mbc1 where
  ramEnable : Bool
  romBankLo : BitVec 5
  ramBank : BitVec 2
  bankingMode : Bool
deriving DecidableEq, Repr

/-- The bank controller: MBC_KIND (00_scope.md R7), with its registers where there are any (R54). -/
inductive Controller where
  | mbc0
  | mbc1 (r : Mbc1)
deriving DecidableEq, Repr

/-- The cartridge: the image and its length (R102), the controller, external RAM and its length (R49). -/
structure Cartridge where
  rom : Memory
  romLen : Nat
  controller : Controller
  ramLen : Nat
  xram : Memory
deriving DecidableEq, Repr

/-- A snapshot of the eight keys (R55); true = pressed. -/
structure Keys where
  up : Bool
  down : Bool
  left : Bool
  right : Bool
  a : Bool
  b : Bool
  start : Bool
  select : Bool
deriving DecidableEq, Repr

/-- No key pressed. -/
def Keys.released : Keys :=
  { up := false, down := false, left := false, right := false, a := false, b := false, start := false, select := false }

/-- The joypad (R28, R55). -/
structure Joypad where
  /-- `p1_sel[5:4]`: bit 1 here is bit 5 of `P1`, bit 0 here is bit 4. -/
  sel : BitVec 2
  cur : Keys
  prev : Keys
deriving DecidableEq, Repr

/-- The whole machine. -/
structure State where
  cpu : Cpu
  timer : Timer
  ppu : Ppu
  cart : Cartridge
  joypad : Joypad
  wram : Memory
  hram : Memory
  /-- The five stored bits of `IF` (R35). -/
  iflag : BitVec 5
  /-- The five stored bits of `IE` (R44). -/
  ie : BitVec 5
  /-- The serial byte (R29). -/
  sb : Byte
  /-- The output stream of the serial strobe, oldest byte first (R56). -/
  dbgOut : List Byte
  /-- The `frame_ready` port as the latest `PpuRun` drove it (00_scope.md R9); the model's own field, notes/assumptions/7. -/
  frameReady : Bool
  /-- The parameters of 00_scope.md R7; no rule writes them, notes/assumptions/4. -/
  params : Params
deriving DecidableEq, Repr

/-- Why the machine stops. -/
inductive Fault where
  /-- Raised by the meanings of the 11 undefined opcodes under UNDEF_POLICY = stuck: "the CPU has no further step"
  (46_system.md R305). Safe: the spec itself offers this stop. -/
  | undefinedOpcode
  /-- Raised by `step` if the three bytes at `PC` did not decode. No state raises it (30_encoding.md R131: every
  value decodes). Safe. -/
  | truncatedFetch
deriving DecidableEq, Repr

/-- Why an instruction has no meaning. -/
inductive Refusal where
  /-- Raised by an arm of `exec` for an instruction this model gives no meaning yet. Safe. -/
  | notModelled (mnemonic : String)
deriving DecidableEq, Repr

/-- What executing an instruction answers. -/
abbrev Result := Host.Outcome State Fault Refusal

/-- The blank cartridge of `State.reset`: 0x8000 bytes of 0x00, whose header selects no controller and no RAM
(20_memory.md R100, R101). DESIGN CHOICE: notes/assumptions/1. -/
def Cartridge.blank : Cartridge :=
  { rom := [], romLen := 0x8000, controller := .mbc0, ramLen := 0, xram := [] }

/-- MBC1's registers after reset (R60; decision D15). -/
def Mbc1.reset : Mbc1 :=
  { ramEnable := false, romBankLo := 1, ramBank := 0, bankingMode := false }

/-- The CPU after reset (R60, R400): the seven register values the source gives, `halt` and `ime` 0 (decision D15). -/
def Cpu.reset : Cpu :=
  { a := 0x01, f := { z := true, n := false, h := true, c := true }, b := 0x00, c := 0x13, d := 0x00, e := 0xD8,
    h := 0x01, l := 0x4D, sp := 0xFFFE, pc := 0x0100, halt := false, ime := false }

/-- The timer after reset (R60; decision D15). -/
def Timer.reset : Timer :=
  { div := 0, tima := 0, tma := 0, tac := 0, divTimer := 0, timer := 0 }

/-- The PPU after reset (R60; decisions D15, D36). -/
def Ppu.reset : Ppu :=
  { lcdc := 0, stat := 0, scy := 0, scx := 0, ly := 0, lyc := 0, bgp := 0, obp0 := 0, obp1 := 0, wy := 0, wx := 0,
    cycles := 0, vram := [], oam := [], fb := [], pri := Vector.replicate 160 .undrawn }

/-- The machine right after reset (R60, R400) with the blank cartridge and every parameter at its default. -/
def State.reset : State :=
  { cpu := .reset, timer := .reset, ppu := .reset, cart := .blank,
    joypad := { sel := 0, cur := .released, prev := .released },
    wram := [], hram := [], iflag := 0, ie := 0, sb := 0, dbgOut := [], frameReady := false, params := .default }

/-- The machine right after reset under the parameters RESET_* and RESET_MEM (00_scope.md R7, 70_reset_and_hazards.md
R401, R402): the seven register values and `ppu_cycles` that the source gives (R60), and every other value, each memory
and `PRI` among them, that of `v`; the bank registers and external RAM are those of `cart`. -/
def State.resetWith (cart : Cartridge) (params : Params) (v : State) : State :=
  { v with
    cpu := { Cpu.reset with halt := v.cpu.halt, ime := v.cpu.ime }
    ppu := { v.ppu with cycles := 0 }
    cart := cart, params := params }

/-- The machine right after reset with a given cartridge and parameters, the reset parameters at their defaults
(00_scope.md R7, R400). -/
def State.powerOn (cart : Cartridge) (params : Params) : State := State.resetWith cart params State.reset

end Sys2Proof.Machine
end

