-- ==== Sys2Proof/Machine/Flags.lean ====
section
/-! DEFINITION. `F` as a byte (spec/10_state.md R21) and every flag computation of the instruction rules: results and
flags of the 8-bit and 16-bit arithmetic, the rotates and shifts (42_alu8.md R200, R225 to R229, 43_alu16.md R240,
R243, 44_rotate_shift_bit.md R254). -/

namespace Sys2Proof.Machine

/-- The byte view of `F`: `(Z<<7)|(N<<6)|(H<<5)|(C<<4)` (R21). -/
def Flags.toByte (f : Flags) : Byte :=
  BitVec.ofBool f.z ++ BitVec.ofBool f.n ++ BitVec.ofBool f.h ++ BitVec.ofBool f.c ++ 0#4

/-- The flags a byte written to `F` leaves: its bits 7 to 4 (R21, R195). -/
def Flags.ofByte (v : Byte) : Flags :=
  { z := v.getLsbD 7, n := v.getLsbD 6, h := v.getLsbD 5, c := v.getLsbD 4 }

/-- A flag as the number 0 or 1. -/
def bit (b : Bool) : Nat := if b then 1 else 0

/-- A byte result with the flags it leaves. -/
structure Res8 where
  val : Byte
  f : Flags
deriving DecidableEq, Repr

/-- `Add8(a, v, cin)` (R200). -/
def add8 (a v : Byte) (cin : Bool) : Res8 :=
  let s := a.toNat + v.toNat + bit cin
  let r := BitVec.ofNat 8 s
  { val := r,
    f := { z := r == 0, n := false, h := a.toNat % 16 + v.toNat % 16 + bit cin > 0xF, c := s > 0xFF } }

/-- `Sub8(a, v, cin)` (R200). -/
def sub8 (a v : Byte) (cin : Bool) : Res8 :=
  let d : Int := a.toNat - v.toNat - bit cin
  let r := BitVec.ofInt 8 d
  { val := r,
    f := { z := r == 0, n := true, h := a.toNat % 16 < v.toNat % 16 + bit cin, c := a.toNat < v.toNat + bit cin } }

/-- `And8(a, v)` (R200). -/
def and8 (a v : Byte) : Res8 :=
  { val := a &&& v, f := { z := (a &&& v) == 0, n := false, h := true, c := false } }

/-- `Or8(a, v)` (R200). -/
def or8 (a v : Byte) : Res8 :=
  { val := a ||| v, f := { z := (a ||| v) == 0, n := false, h := false, c := false } }

/-- `Xor8(a, v)` (R200). -/
def xor8 (a v : Byte) : Res8 :=
  { val := a ^^^ v, f := { z := (a ^^^ v) == 0, n := false, h := false, c := false } }

/-- What an operation of R137 computes from A, its operand and the carry flag; `CP` computes a subtraction (R222). -/
def aluResult (op : AluOp) (a v : Byte) (carry : Bool) : Res8 :=
  match op with
  | .add => add8 a v false
  | .adc => add8 a v carry
  | .sub => sub8 a v false
  | .sbc => sub8 a v carry
  | .and => and8 a v
  | .xor => xor8 a v
  | .or => or8 a v
  | .cp => sub8 a v false

/-- `INC` of a byte (R225): the carry flag is unchanged. -/
def inc8 (v : Byte) (f : Flags) : Res8 :=
  let r := v + 1
  { val := r, f := { z := r == 0, n := false, h := r &&& 0xF == 0, c := f.c } }

/-- `DEC` of a byte (R227): the carry flag is unchanged. -/
def dec8 (v : Byte) (f : Flags) : Res8 :=
  let r := v - 1
  { val := r, f := { z := r == 0, n := true, h := r &&& 0xF == 0xF, c := f.c } }

/-- `DAA` (R229), with the unbounded intermediate of decision D26. -/
def daa (a : Byte) (f : Flags) : Res8 :=
  let x : Int := a.toNat
  let (x, c) : Int × Bool :=
    if f.n then
      let x := if f.h then x - 0x06 else x
      (if f.c then x - 0x60 else x, f.c)
    else
      let x := if f.h || a.toNat % 16 > 9 then x + 0x06 else x
      if f.c || x > 0x9F then (x + 0x60, true) else (x, f.c)
  let r := BitVec.ofInt 8 x
  { val := r, f := { z := r == 0, n := f.n, h := false, c := c } }

/-- A word result with the flags it leaves. -/
structure Res16 where
  val : Word
  f : Flags
deriving DecidableEq, Repr

/-- `ADD HL,rr` (R240): Z is unchanged. -/
def addHl16 (hl v : Word) (f : Flags) : Res16 :=
  let s := hl.toNat + v.toNat
  { val := BitVec.ofNat 16 s,
    f := { z := f.z, n := false, h := hl.toNat % 0x1000 + v.toNat % 0x1000 > 0x0FFF, c := s > 0xFFFF } }

/-- `SP + e8` (R196, R243): the flags are bits 4 and 8 of `SP ^ e ^ result`. -/
def addSp16 (sp : Word) (e8 : Byte) : Res16 :=
  let e := sext16 e8
  let r := sp + e
  let t := sp ^^^ e ^^^ r
  { val := r, f := { z := false, n := false, h := t.getLsbD 4, c := t.getLsbD 8 } }

/-- The result byte of a rotate or shift and the bit it leaves in the carry flag (R255 to R270). -/
def rotBits (op : RotOp) (v : Byte) (carry : Bool) : Byte × Bool :=
  match op with
  | .rlc => ((v <<< 1) ||| (BitVec.ofBool (v.getLsbD 7)).setWidth 8, v.getLsbD 7)
  | .rrc => ((v >>> 1) ||| ((BitVec.ofBool (v.getLsbD 0)).setWidth 8 <<< 7), v.getLsbD 0)
  | .rl => ((v <<< 1) ||| (BitVec.ofBool carry).setWidth 8, v.getLsbD 7)
  | .rr => ((v >>> 1) ||| ((BitVec.ofBool carry).setWidth 8 <<< 7), v.getLsbD 0)
  | .sla => (v <<< 1, v.getLsbD 7)
  | .sra => ((v >>> 1) ||| (v &&& 0x80), v.getLsbD 0)
  | .swap => (((v &&& 0x0F) <<< 4) ||| (v >>> 4), false)
  | .srl => (v >>> 1, v.getLsbD 0)

/-- A CB rotate or shift (R254): Z from the result, N = H = 0, C the bit shifted out (0 for SWAP). -/
def rot8 (op : RotOp) (v : Byte) (carry : Bool) : Res8 :=
  let (r, b) := rotBits op v carry
  { val := r, f := { z := r == 0, n := false, h := false, c := b } }

/-- The flags of `BIT n` (R271): the carry flag is unchanged. -/
def bitFlags (n : BitIndex) (v : Byte) (f : Flags) : Flags :=
  { z := !v.getLsbD n, n := false, h := true, c := f.c }

/-- `v & ~(1 << n)` (R273). -/
def resBit (n : BitIndex) (v : Byte) : Byte := v &&& ~~~(1#8 <<< n.val)

/-- `v | (1 << n)` (R275). -/
def setBit (n : BitIndex) (v : Byte) : Byte := v ||| (1#8 <<< n.val)

/-- A condition on the flags (R280). -/
def Flags.holds (f : Flags) : Cond → Bool
  | .nz => !f.z
  | .z => f.z
  | .nc => !f.c
  | .c => f.c

end Sys2Proof.Machine
end

