-- ==== Sys2Proof/Machine/Ops.lean ====
section
/-! DEFINITION. The named operations over memory, registers and the bus (spec/20_memory.md, spec/10_state.md), the
stack (41_load16.md R190), requesting and taking an interrupt (60_exceptions.md R313, R315) and returning from one
(45_control.md R290). -/

namespace Sys2Proof.Machine

/-! ## Memories -/

/-- The byte at an offset. -/
def Memory.read : Memory → Nat → Byte
  | [], _ => Config.unlistedByte
  | (k, v) :: m, a => if k = a then v else Memory.read m a

/-- Store a byte at an offset, keeping the canonical form: storing what an unlisted offset reads as removes the entry. -/
def Memory.write : Memory → Nat → Byte → Memory
  | [], a, v => if v = Config.unlistedByte then [] else [(a, v)]
  | (k, w) :: m, a, v =>
    if a < k then
      if v = Config.unlistedByte then (k, w) :: m else (a, v) :: (k, w) :: m
    else if a = k then
      if v = Config.unlistedByte then m else (a, v) :: m
    else (k, w) :: Memory.write m a v

/-- The canonical form: offsets strictly rising, no entry equal to what an unlisted offset reads as. -/
def Memory.wf : Memory → Bool
  | [] => true
  | (k, v) :: m => v != Config.unlistedByte && m.all (fun c => k < c.1) && Memory.wf m

/-- Every listed offset lies below `size`. -/
def Memory.below (size : Nat) (m : Memory) : Bool := m.all (fun c => c.1 < size)

/-- A canonical memory holding a list of bytes from offset `a` on. -/
def Memory.ofBytes : Nat → List Byte → Memory
  | _, [] => []
  | a, v :: vs => Memory.write (Memory.ofBytes (a + 1) vs) a v

/-! ## Registers -/

/-- `x[i]` for the registers of R133. -/
def State.reg (s : State) : Reg8 → Byte
  | .b => s.cpu.b
  | .c => s.cpu.c
  | .d => s.cpu.d
  | .e => s.cpu.e
  | .h => s.cpu.h
  | .l => s.cpu.l
  | .a => s.cpu.a

/-- `x[i] <- v` for the registers of R133. -/
def State.setReg (s : State) (r : Reg8) (v : Byte) : State :=
  match r with
  | .b => { s with cpu := { s.cpu with b := v } }
  | .c => { s with cpu := { s.cpu with c := v } }
  | .d => { s with cpu := { s.cpu with d := v } }
  | .e => { s with cpu := { s.cpu with e := v } }
  | .h => { s with cpu := { s.cpu with h := v } }
  | .l => { s with cpu := { s.cpu with l := v } }
  | .a => { s with cpu := { s.cpu with a := v } }

/-- The pair `BC` (R22). -/
def State.bc (s : State) : Word := join s.cpu.b s.cpu.c
/-- The pair `DE` (R22). -/
def State.de (s : State) : Word := join s.cpu.d s.cpu.e
/-- The pair `HL` (R22). -/
def State.hl (s : State) : Word := join s.cpu.h s.cpu.l

/-- `BC <- v` (R22). -/
def State.setBc (s : State) (v : Word) : State :=
  { s with cpu := { s.cpu with b := hiByte v, c := loByte v } }
/-- `DE <- v` (R22). -/
def State.setDe (s : State) (v : Word) : State :=
  { s with cpu := { s.cpu with d := hiByte v, e := loByte v } }
/-- `HL <- v` (R22). -/
def State.setHl (s : State) (v : Word) : State :=
  { s with cpu := { s.cpu with h := hiByte v, l := loByte v } }

/-- `SP <- v`. -/
def State.setSp (s : State) (v : Word) : State := { s with cpu := { s.cpu with sp := v } }
/-- `PC <- v`. -/
def State.setPc (s : State) (v : Word) : State := { s with cpu := { s.cpu with pc := v } }
/-- The four flags become `f`. -/
def State.setFlags (s : State) (f : Flags) : State := { s with cpu := { s.cpu with f := f } }
/-- `halt <- b`. -/
def State.setHalt (s : State) (b : Bool) : State := { s with cpu := { s.cpu with halt := b } }
/-- `ime <- b`. -/
def State.setIme (s : State) (b : Bool) : State := { s with cpu := { s.cpu with ime := b } }

/-- A pair of the first kind (R135). -/
def State.pair (s : State) : Pair → Word
  | .bc => s.bc
  | .de => s.de
  | .hl => s.hl
  | .sp => s.cpu.sp

/-- Write a pair of the first kind (R22, R191). -/
def State.setPair (s : State) (p : Pair) (v : Word) : State :=
  match p with
  | .bc => s.setBc v
  | .de => s.setDe v
  | .hl => s.setHl v
  | .sp => s.setSp v

/-! ## Cartridge -/

/-- The ROM bank MBC1 shows at 4000 to 7FFF (R109): `rom_bank_lo | (ram_bank << 5)` in mode 0, `rom_bank_lo` alone
in mode 1. -/
def Mbc1.romBank (r : Mbc1) : Nat :=
  if r.bankingMode then r.romBankLo.toNat else (r.ramBank ++ r.romBankLo).toNat

/-- The ROM byte an address of 0000 to 7FFF names (R103, R109). -/
def Cartridge.romOffset (c : Cartridge) (a : Nat) : Nat :=
  match c.controller with
  | .mbc0 => a
  | .mbc1 r => if a ≤ 0x3FFF then a else (r.romBank * 0x4000 + (a - 0x4000)) % c.romLen

/-- The external RAM byte an address of A000 to BFFF names, where there is one (R104, R110, R111). -/
def Cartridge.ramOffset (c : Cartridge) (a : Nat) : Option Nat :=
  match c.controller with
  | .mbc0 => none
  | .mbc1 r =>
    if r.ramEnable && c.ramLen != 0 then
      some (((if r.bankingMode then r.ramBank.toNat else 0) * 0x2000 + (a - 0xA000)) % c.ramLen)
    else none

/-- `CartRead` (R103, R109). -/
def Cartridge.read (c : Cartridge) (a : Nat) : Byte := Memory.read c.rom (c.romOffset a)

/-- `CartRamRead` (R104, R110). -/
def Cartridge.ramRead (c : Cartridge) (a : Nat) : Byte :=
  match c.ramOffset a with
  | some o => Memory.read c.xram o
  | none => 0xFF

/-- A write to MBC1's control ranges (R105 to R108). -/
def Mbc1.write (r : Mbc1) (a : Nat) (v : Byte) : Mbc1 :=
  if a ≤ 0x1FFF then { r with ramEnable := v &&& 0x0F == 0x0A }
  else if a ≤ 0x3FFF then
    { r with romBankLo := if v.setWidth 5 = 0 then 1 else v.setWidth 5 }
  else if a ≤ 0x5FFF then { r with ramBank := v.setWidth 2 }
  else { r with bankingMode := v.getLsbD 0 }

/-- `CartWrite` (R103, R105 to R108). -/
def Cartridge.write (c : Cartridge) (a : Nat) (v : Byte) : Cartridge :=
  match c.controller with
  | .mbc0 => c
  | .mbc1 r => { c with controller := .mbc1 (r.write a v) }

/-- `CartRamWrite` (R104, R111). -/
def Cartridge.ramWrite (c : Cartridge) (a : Nat) (v : Byte) : Cartridge :=
  match c.ramOffset a with
  | some o => { c with xram := Memory.write c.xram o v }
  | none => c

/-- Why an image is not accepted (R100, R404): the machine is then never created. -/
inductive LoadError where
  /-- The image is shorter than 0x8000 bytes. -/
  | truncated
  /-- Byte 0x147 names a controller the machine does not have. -/
  | unsupportedController (code : Byte)
deriving DecidableEq, Repr

/-- RAM_LEN from the RAM-size code (R101). -/
def ramLenOfCode (code : Byte) : Nat :=
  match code.toNat with
  | 1 => 2048
  | 2 => 8192
  | 3 => 32768
  | _ => 0

/-- `load(bytes)` (R100, R101): the cartridge of an image, before reset. -/
def Cartridge.load (image : List Byte) : Except LoadError Cartridge :=
  if image.length < Config.minRomLen then .error .truncated
  else
    let code := image.getD 0x147 0
    let cart (k : Controller) : Cartridge :=
      { rom := Memory.ofBytes 0 image, romLen := image.length, controller := k,
        ramLen := ramLenOfCode (image.getD 0x149 0), xram := [] }
    match code.toNat with
    | 0 => .ok (cart .mbc0)
    | 1 => .ok (cart (.mbc1 .reset))
    | 2 => .ok (cart (.mbc1 .reset))
    | 3 => .ok (cart (.mbc1 .reset))
    | _ => .error (.unsupportedController code)

/-! ## I/O registers -/

/-- The 20 registers of FF00 to FF7F (R27). -/
inductive IoReg where
  | p1 | sb | sc | div | tima | tma | tac | iflag | lcdc | stat | scy | scx | ly | lyc | dma | bgp | obp0 | obp1 | wy | wx
deriving DecidableEq, Repr

/-- The address of a register (R27). -/
def IoReg.addr : IoReg → Nat
  | .p1 => 0xFF00
  | .sb => 0xFF01
  | .sc => 0xFF02
  | .div => 0xFF04
  | .tima => 0xFF05
  | .tma => 0xFF06
  | .tac => 0xFF07
  | .iflag => 0xFF0F
  | .lcdc => 0xFF40
  | .stat => 0xFF41
  | .scy => 0xFF42
  | .scx => 0xFF43
  | .ly => 0xFF44
  | .lyc => 0xFF45
  | .dma => 0xFF46
  | .bgp => 0xFF47
  | .obp0 => 0xFF48
  | .obp1 => 0xFF49
  | .wy => 0xFF4A
  | .wx => 0xFF4B

/-- Every I/O register, in the order of its address. -/
def IoReg.all : List IoReg :=
  [.p1, .sb, .sc, .div, .tima, .tma, .tac, .iflag, .lcdc, .stat, .scy, .scx, .ly, .lyc, .dma, .bgp, .obp0, .obp1,
   .wy, .wx]

/-- The register at an address of FF00 to FF7F, where there is one (R90, R92). -/
def ioRegAt (a : Nat) : Option IoReg := IoReg.all.find? (fun r => r.addr == a)

/-- Four key bits of a row, pressed = 0 (R28): bit 0 first. -/
def rowBits (b0 b1 b2 b3 : Bool) : BitVec 4 :=
  BitVec.ofBool (!b3) ++ BitVec.ofBool (!b2) ++ BitVec.ofBool (!b1) ++ BitVec.ofBool (!b0)

/-- The read value of `P1` (R28). -/
def Joypad.read (j : Joypad) : Byte :=
  let act := rowBits j.cur.a j.cur.b j.cur.select j.cur.start
  let dir := rowBits j.cur.right j.cur.left j.cur.up j.cur.down
  let low := 0xF#4 &&& (if j.sel.getLsbD 1 then 0xF#4 else act) &&& (if j.sel.getLsbD 0 then 0xF#4 else dir)
  0#2 ++ j.sel ++ low

/-- The read value of each register (R27 to R43). -/
def State.ioRegRead (s : State) : IoReg → Byte
  | .p1 => s.joypad.read
  | .sb => s.sb
  | .sc => 0xFF
  | .div => s.timer.div
  | .tima => s.timer.tima
  | .tma => s.timer.tma
  | .tac => s.timer.tac.setWidth 8
  | .iflag => s.iflag.setWidth 8
  | .lcdc => s.ppu.lcdc
  | .stat => s.ppu.stat.setWidth 8
  | .scy => s.ppu.scy
  | .scx => s.ppu.scx
  | .ly => s.ppu.ly
  | .lyc => s.ppu.lyc
  | .dma => 0xFF
  | .bgp => s.ppu.bgp
  | .obp0 => s.ppu.obp0
  | .obp1 => s.ppu.obp1
  | .wy => s.ppu.wy
  | .wx => s.ppu.wx

/-- `IoRead` (R90, R92). -/
def State.ioRead (s : State) (a : Nat) : Byte :=
  match ioRegAt a with
  | some r => s.ioRegRead r
  | none => 0xFF

/-! ## The bus -/

/-- `BusRead` (R72). -/
def State.busRead (s : State) (addr : Word) : Byte :=
  let a := addr.toNat
  if a ≤ 0x7FFF then s.cart.read a
  else if a ≤ 0x9FFF then Memory.read s.ppu.vram (a - 0x8000)
  else if a ≤ 0xBFFF then s.cart.ramRead a
  else if a ≤ 0xDFFF then Memory.read s.wram (a - 0xC000)
  else if a ≤ 0xFDFF then Memory.read s.wram (a - 0x2000 - 0xC000)
  else if a ≤ 0xFE9F then Memory.read s.ppu.oam (a - 0xFE00)
  else if a ≤ 0xFEFF then 0xFF
  else if a ≤ 0xFF7F then s.ioRead a
  else if a ≤ 0xFFFE then Memory.read s.hram (a - 0xFF80)
  else s.ie.setWidth 8

/-- `OAM[i] <- v`. -/
def State.setOam (s : State) (i : Nat) (v : Byte) : State :=
  { s with ppu := { s.ppu with oam := Memory.write s.ppu.oam i v } }

/-- OAM DMA (R96): the bytes of page `v`, in ascending order, each read through the bus. -/
def State.oamDma (s : State) (v : Byte) : State :=
  (List.range 160).foldl (fun t i => t.setOam i (t.busRead (BitVec.ofNat 16 (v.toNat * 0x100 + i)))) s

/-- The write effect of each register (R27 to R43, R96, R97). -/
def State.ioRegWrite (s : State) (r : IoReg) (v : Byte) : State :=
  match r with
  | .p1 => { s with joypad := { s.joypad with sel := v.extractLsb' 4 2 } }
  | .sb => { s with sb := v }
  | .sc => if v = 0x81 then { s with dbgOut := s.dbgOut ++ [s.sb] } else s
  | .div => { s with timer := { s.timer with div := 0 } }
  | .tima => { s with timer := { s.timer with tima := v } }
  | .tma => { s with timer := { s.timer with tma := v } }
  | .tac => { s with timer := { s.timer with tac := v.setWidth 3 } }
  | .iflag => { s with iflag := v.setWidth 5 }
  | .lcdc => { s with ppu := { s.ppu with lcdc := v } }
  | .stat => { s with ppu := { s.ppu with stat := (s.ppu.stat &&& 0x07) ||| (v.setWidth 7 &&& 0x78) } }
  | .scy => { s with ppu := { s.ppu with scy := v } }
  | .scx => { s with ppu := { s.ppu with scx := v } }
  | .ly => s
  | .lyc => { s with ppu := { s.ppu with lyc := v } }
  | .dma => s.oamDma v
  | .bgp => { s with ppu := { s.ppu with bgp := v } }
  | .obp0 => { s with ppu := { s.ppu with obp0 := v } }
  | .obp1 => { s with ppu := { s.ppu with obp1 := v } }
  | .wy => { s with ppu := { s.ppu with wy := v } }
  | .wx => { s with ppu := { s.ppu with wx := v } }

/-- `IoWrite` (R91, R92). -/
def State.ioWrite (s : State) (a : Nat) (v : Byte) : State :=
  match ioRegAt a with
  | some r => s.ioRegWrite r v
  | none => s

/-- `BusWrite` (R73). -/
def State.busWrite (s : State) (addr : Word) (v : Byte) : State :=
  let a := addr.toNat
  if a ≤ 0x7FFF then { s with cart := s.cart.write a v }
  else if a ≤ 0x9FFF then { s with ppu := { s.ppu with vram := Memory.write s.ppu.vram (a - 0x8000) v } }
  else if a ≤ 0xBFFF then { s with cart := s.cart.ramWrite a v }
  else if a ≤ 0xDFFF then { s with wram := Memory.write s.wram (a - 0xC000) v }
  else if a ≤ 0xFDFF then { s with wram := Memory.write s.wram (a - 0x2000 - 0xC000) v }
  else if a ≤ 0xFE9F then s.setOam (a - 0xFE00) v
  else if a ≤ 0xFEFF then s
  else if a ≤ 0xFF7F then s.ioWrite a v
  else if a ≤ 0xFFFE then { s with hram := Memory.write s.hram (a - 0xFF80) v }
  else { s with ie := v.setWidth 5 }

/-! ## Fetch and stack -/

/-- `Fetch8` (00_scope.md R13): the byte at `PC`, and `PC` past it. -/
def State.fetch8 (s : State) : Byte × State := (s.busRead s.cpu.pc, s.setPc (s.cpu.pc + 1))

/-- `Push16` (R190): the high byte at `SP - 1`, then the low byte at `SP - 2`, then `SP` down by 2. -/
def State.push16 (s : State) (v : Word) : State :=
  let sp := s.cpu.sp
  ((s.busWrite (sp - 1) (hiByte v)).busWrite (sp - 2) (loByte v)).setSp (sp - 2)

/-- `Pop16` (R190): the low byte at `SP`, the high byte at `SP + 1`, and `SP` up by 2. -/
def State.pop16 (s : State) : Word × State :=
  (join (s.busRead (s.cpu.sp + 1)) (s.busRead s.cpu.sp), s.setSp (s.cpu.sp + 2))

/-! ## Interrupts -/

/-- The five sources (R314). -/
inductive Irq where
  | vblank | stat | timer | serial | joypad
deriving DecidableEq, Repr

/-- The bit of a source in `IF` and `IE` (R314). -/
def Irq.bit : Irq → Nat
  | .vblank => 0
  | .stat => 1
  | .timer => 2
  | .serial => 3
  | .joypad => 4

/-- A mask with the source's bit set. -/
def Irq.mask (i : Irq) : BitVec 5 := 1#5 <<< i.bit

/-- The vector `0x40 + 8 * i` (R314, R315). -/
def Irq.vector (i : Irq) : Word := 0x0040 + BitVec.ofNat 16 (8 * i.bit)

/-- `RequestIrq` (R313). -/
def State.requestIrq (s : State) (i : Irq) : State := { s with iflag := s.iflag ||| i.mask }

/-- The enabled requests, `IE & IF & 0x1F` (R312). -/
def State.pending (s : State) : BitVec 5 := s.ie &&& s.iflag

/-- The source of the lowest set bit (R315, R319). -/
def lowestIrq (p : BitVec 5) : Option Irq :=
  [Irq.vblank, .stat, .timer, .serial, .joypad].find? (fun i => p.getLsbD i.bit)

/-- The interrupt the next step services, if any (R312, R314). -/
def State.serviceable (s : State) : Option Irq := if s.cpu.ime then lowestIrq s.pending else none

/-- `ServiceInterrupt(i)` (R315): TAKING AN INTERRUPT, the one exception of this machine. -/
def State.serviceInterrupt (s : State) (i : Irq) : State :=
  let s := { s with iflag := s.iflag &&& ~~~i.mask }
  let s := (s.setIme false).setHalt false
  (s.push16 s.cpu.pc).setPc i.vector

/-- The return from an interrupt, `RETI` (R290, R321): `PC` is popped and `ime` set. -/
def State.returnFromInterrupt (s : State) : State :=
  let (pc, s) := s.pop16
  (s.setPc pc).setIme true

end Sys2Proof.Machine
end

