-- ==== Sys2Proof/Machine/Operands.lean ====
section
/-! DEFINITION. The operand forms (spec/30_encoding.md R133 to R136, R141): the 3-bit index that names a register or
the memory byte at HL, the stack pairs, and the address forms. -/

namespace Sys2Proof.Machine

/-- What the 3-bit field of R133 names: a register, or for index 6 the memory byte at HL (R134). -/
inductive Loc8 where
  | r (r : Reg8)
  | hlMem
deriving DecidableEq, Repr

/-- The table of R133, index 0 to 7: `B, C, D, E, H, L, (HL), A`. -/
def loc8OfIndex (i : BitVec 3) : Loc8 :=
  match i.toNat with
  | 0 => .r .b
  | 1 => .r .c
  | 2 => .r .d
  | 3 => .r .e
  | 4 => .r .h
  | 5 => .r .l
  | 6 => .hlMem
  | _ => .r .a

/-- Read `x[i]` (R133, R134). -/
def State.loc (s : State) : Loc8 → Byte
  | .r r => s.reg r
  | .hlMem => s.busRead s.hl

/-- Write `x[i]` (R133, R134). -/
def State.setLoc (s : State) (x : Loc8) (v : Byte) : State :=
  match x with
  | .r r => s.setReg r v
  | .hlMem => s.busWrite s.hl v

/-- A pair of the second kind (R135), with `AF = (A<<8)|F` (R22). -/
def State.stackPair (s : State) : StackPair → Word
  | .bc => s.bc
  | .de => s.de
  | .hl => s.hl
  | .af => join s.cpu.a s.cpu.f.toByte

/-- Write a pair of the second kind (R22): of `AF`, the low nibble of `F` is dropped. -/
def State.setStackPair (s : State) (p : StackPair) (v : Word) : State :=
  match p with
  | .bc => s.setBc v
  | .de => s.setDe v
  | .hl => s.setHl v
  | .af => { s with cpu := { s.cpu with a := hiByte v, f := Flags.ofByte (loByte v) } }

/-- The effective address `0xFF00 + n` of `a8` and `(C)` (R141, R177). -/
def highPage (n : Byte) : Word := join 0xFF n

/-- The target of a relative jump (R284): `PC`, past the instruction, plus the displacement. -/
def relTarget (pc : Word) (e : Byte) : Word := pc + sext16 e

end Sys2Proof.Machine
end

