-- ==== Sys2Proof/Machine/Cost.lean ====
section
/-! DEFINITION. What each instruction costs in cycles (spec/30_encoding.md R140, R142, R143): the default table of the
parameter Cost, and the entries of `Params.costs` before it. -/

namespace Sys2Proof.Machine

/-- Cost, taken and not taken, of opcodes 00 to 0F (R142). -/
def costLine0 : List (Nat × Nat) :=
  [(4, 4), (12, 12), (8, 8), (8, 8), (4, 4), (4, 4), (8, 8), (4, 4),
   (20, 20), (8, 8), (8, 8), (8, 8), (4, 4), (4, 4), (8, 8), (4, 4)]

/-- Cost, taken and not taken, of opcodes 10 to 1F (R142). -/
def costLine1 : List (Nat × Nat) :=
  [(4, 4), (12, 12), (8, 8), (8, 8), (4, 4), (4, 4), (8, 8), (4, 4),
   (12, 12), (8, 8), (8, 8), (8, 8), (4, 4), (4, 4), (8, 8), (4, 4)]

/-- Cost, taken and not taken, of opcodes 20 to 2F (R142). -/
def costLine2 : List (Nat × Nat) :=
  [(12, 8), (12, 12), (8, 8), (8, 8), (4, 4), (4, 4), (8, 8), (4, 4),
   (12, 8), (8, 8), (8, 8), (8, 8), (4, 4), (4, 4), (8, 8), (4, 4)]

/-- Cost, taken and not taken, of opcodes 30 to 3F (R142). -/
def costLine3 : List (Nat × Nat) :=
  [(12, 8), (12, 12), (8, 8), (8, 8), (12, 12), (12, 12), (12, 12), (4, 4),
   (12, 8), (8, 8), (8, 8), (8, 8), (4, 4), (4, 4), (8, 8), (4, 4)]

/-- Cost, taken and not taken, of opcodes 40 to 4F (R142). -/
def costLine4 : List (Nat × Nat) :=
  [(4, 4), (4, 4), (4, 4), (4, 4), (4, 4), (4, 4), (8, 8), (4, 4),
   (4, 4), (4, 4), (4, 4), (4, 4), (4, 4), (4, 4), (8, 8), (4, 4)]

/-- Cost, taken and not taken, of opcodes 50 to 5F (R142). -/
def costLine5 : List (Nat × Nat) :=
  [(4, 4), (4, 4), (4, 4), (4, 4), (4, 4), (4, 4), (8, 8), (4, 4),
   (4, 4), (4, 4), (4, 4), (4, 4), (4, 4), (4, 4), (8, 8), (4, 4)]

/-- Cost, taken and not taken, of opcodes 60 to 6F (R142). -/
def costLine6 : List (Nat × Nat) :=
  [(4, 4), (4, 4), (4, 4), (4, 4), (4, 4), (4, 4), (8, 8), (4, 4),
   (4, 4), (4, 4), (4, 4), (4, 4), (4, 4), (4, 4), (8, 8), (4, 4)]

/-- Cost, taken and not taken, of opcodes 70 to 7F (R142). -/
def costLine7 : List (Nat × Nat) :=
  [(8, 8), (8, 8), (8, 8), (8, 8), (8, 8), (8, 8), (4, 4), (8, 8),
   (4, 4), (4, 4), (4, 4), (4, 4), (4, 4), (4, 4), (8, 8), (4, 4)]

/-- Cost, taken and not taken, of opcodes 80 to 8F (R142). -/
def costLine8 : List (Nat × Nat) :=
  [(4, 4), (4, 4), (4, 4), (4, 4), (4, 4), (4, 4), (8, 8), (4, 4),
   (4, 4), (4, 4), (4, 4), (4, 4), (4, 4), (4, 4), (8, 8), (4, 4)]

/-- Cost, taken and not taken, of opcodes 90 to 9F (R142). -/
def costLine9 : List (Nat × Nat) :=
  [(4, 4), (4, 4), (4, 4), (4, 4), (4, 4), (4, 4), (8, 8), (4, 4),
   (4, 4), (4, 4), (4, 4), (4, 4), (4, 4), (4, 4), (8, 8), (4, 4)]

/-- Cost, taken and not taken, of opcodes A0 to AF (R142). -/
def costLineA : List (Nat × Nat) :=
  [(4, 4), (4, 4), (4, 4), (4, 4), (4, 4), (4, 4), (8, 8), (4, 4),
   (4, 4), (4, 4), (4, 4), (4, 4), (4, 4), (4, 4), (8, 8), (4, 4)]

/-- Cost, taken and not taken, of opcodes B0 to BF (R142). -/
def costLineB : List (Nat × Nat) :=
  [(4, 4), (4, 4), (4, 4), (4, 4), (4, 4), (4, 4), (8, 8), (4, 4),
   (4, 4), (4, 4), (4, 4), (4, 4), (4, 4), (4, 4), (8, 8), (4, 4)]

/-- Cost, taken and not taken, of opcodes C0 to CF (R142). -/
def costLineC : List (Nat × Nat) :=
  [(20, 8), (12, 12), (16, 12), (16, 16), (24, 12), (16, 16), (8, 8), (16, 16),
   (20, 8), (16, 16), (16, 12), (0, 0), (24, 12), (24, 24), (8, 8), (16, 16)]

/-- Cost, taken and not taken, of opcodes D0 to DF (R142). -/
def costLineD : List (Nat × Nat) :=
  [(20, 8), (12, 12), (16, 12), (4, 4), (24, 12), (16, 16), (8, 8), (16, 16),
   (20, 8), (16, 16), (16, 12), (4, 4), (24, 12), (4, 4), (8, 8), (16, 16)]

/-- Cost, taken and not taken, of opcodes E0 to EF (R142). -/
def costLineE : List (Nat × Nat) :=
  [(12, 12), (12, 12), (8, 8), (4, 4), (4, 4), (16, 16), (8, 8), (16, 16),
   (16, 16), (4, 4), (16, 16), (4, 4), (4, 4), (4, 4), (8, 8), (16, 16)]

/-- Cost, taken and not taken, of opcodes F0 to FF (R142). -/
def costLineF : List (Nat × Nat) :=
  [(12, 12), (12, 12), (8, 8), (4, 4), (4, 4), (16, 16), (8, 8), (16, 16),
   (12, 12), (8, 8), (16, 16), (4, 4), (4, 4), (4, 4), (8, 8), (16, 16)]

/-- The primary cost table (R142), line `n / 16`, entry `n % 16` for opcode `n`; the prefix `0xCB` has no cost of its
own (R306) and its entry is not used. -/
def costTable : List (List (Nat × Nat)) :=
  [costLine0, costLine1, costLine2, costLine3, costLine4, costLine5, costLine6, costLine7,
   costLine8, costLine9, costLineA, costLineB, costLineC, costLineD, costLineE, costLineF]

/-- The cost of a CB instruction (R143): 8 for a register, 16 for `(HL)`, 12 for `BIT n,(HL)`. -/
def cbCost (op2 : Nat) : Nat :=
  if op2 % 8 = 6 then (if op2 / 64 = 1 then 12 else 16) else 8

/-- The default cost of a row of the opcode map (0 to 255 primary, 256 to 511 the CB map). -/
def defaultCost (row : Nat) (taken : Bool) : Nat :=
  if row < 256 then
    let c := (costTable.getD (row / 16) []).getD (row % 16) (4, 4)
    if taken then c.1 else c.2
  else cbCost (row - 256)

/-- The parameter Cost (R7, R140): the first entry of `costs` for this row and outcome, else the default table's. -/
def Params.cost (p : Params) (row : Nat) (taken : Bool) : Nat :=
  match p.costs.find? (fun e => e.row == row && e.taken == taken) with
  | some e => e.cycles
  | none => defaultCost row taken

/-- The condition of a conditional jump, call or return (R140, R280); an instruction without one counts as taken. -/
def Instr.condition : Instr → Option Cond
  | .jrNzE8 _ => some .nz
  | .jrZE8 _ => some .z
  | .jrNcE8 _ => some .nc
  | .jrCE8 _ => some .c
  | .retNz => some .nz
  | .jpNzA16 _ => some .nz
  | .callNzA16 _ => some .nz
  | .retZ => some .z
  | .jpZA16 _ => some .z
  | .callZA16 _ => some .z
  | .retNc => some .nc
  | .jpNcA16 _ => some .nc
  | .callNcA16 _ => some .nc
  | .retC => some .c
  | .jpCA16 _ => some .c
  | .callCA16 _ => some .c
  | _ => none

/-- Whether an instruction's condition holds in these flags. -/
def Instr.taken (i : Instr) (f : Flags) : Bool :=
  match Instr.condition i with
  | some cc => f.holds cc
  | none => true

/-- `Cost(op[, taken])` of an instruction about to run in `s` (R140): of the bare prefix, the cost of the CB
instruction whose second byte is at `PC` (R306). -/
def costOf (i : Instr) (s : State) : Nat :=
  if i = .prefixCb then Params.cost s.params (cbRow (s.busRead s.cpu.pc)).row true
  else Params.cost s.params i.row (Instr.taken i s.cpu.f)

end Sys2Proof.Machine
end

