-- ==== Sys2Proof/Machine/Alu16.lean ====
section
/-! DEFINITION. 16-bit arithmetic (spec/43_alu16.md R240 to R243). -/

namespace Sys2Proof.Machine

/-! ## Shared operations -/

/-- `ADD HL,rr` (R240). -/
def opAddHl (p : Pair) (s : State) : State :=
  let r := addHl16 s.hl (s.pair p) s.cpu.f
  (s.setHl r.val).setFlags r.f

/-- `ADD SP,e8` (R243). -/
def opAddSp (e : Byte) (s : State) : State :=
  let r := addSp16 s.cpu.sp e
  (s.setSp r.val).setFlags r.f

/-! ## Meanings -/

/-- `INC BC` (03), R241. -/
def execIncBc (s : State) : Result := .next (s.setPair .bc (s.pair .bc + 1))

/-- `ADD HL,BC` (09), R240. -/
def execAddHlBc (s : State) : Result := .next (opAddHl .bc s)

/-- `DEC BC` (0B), R242. -/
def execDecBc (s : State) : Result := .next (s.setPair .bc (s.pair .bc - 1))

/-- `INC DE` (13), R241. -/
def execIncDe (s : State) : Result := .next (s.setPair .de (s.pair .de + 1))

/-- `ADD HL,DE` (19), R240. -/
def execAddHlDe (s : State) : Result := .next (opAddHl .de s)

/-- `DEC DE` (1B), R242. -/
def execDecDe (s : State) : Result := .next (s.setPair .de (s.pair .de - 1))

/-- `INC HL` (23), R241. -/
def execIncHl (s : State) : Result := .next (s.setPair .hl (s.pair .hl + 1))

/-- `ADD HL,HL` (29), R240. -/
def execAddHlHl (s : State) : Result := .next (opAddHl .hl s)

/-- `DEC HL` (2B), R242. -/
def execDecHl (s : State) : Result := .next (s.setPair .hl (s.pair .hl - 1))

/-- `INC SP` (33), R241. -/
def execIncSp (s : State) : Result := .next (s.setPair .sp (s.pair .sp + 1))

/-- `ADD HL,SP` (39), R240. -/
def execAddHlSp (s : State) : Result := .next (opAddHl .sp s)

/-- `DEC SP` (3B), R242. -/
def execDecSp (s : State) : Result := .next (s.setPair .sp (s.pair .sp - 1))

/-- `ADD SP,e8` (E8), R243. -/
def execAddSpE8 (e : Byte) (s : State) : Result := .next (opAddSp e s)

end Sys2Proof.Machine
end

