-- ==== Sys2Proof/Machine/Alu8.lean ====
section
/-! DEFINITION. 8-bit arithmetic and logic (spec/42_alu8.md R200 to R232). -/

namespace Sys2Proof.Machine

/-! ## Shared operations -/

/-- An operation of R137 on A and an operand (R201 to R224): `CP` writes the flags alone. -/
def opAlu (op : AluOp) (v : Byte) (s : State) : State :=
  let r := aluResult op s.cpu.a v s.cpu.f.c
  if op = .cp then s.setFlags r.f else (s.setReg .a r.val).setFlags r.f

/-- `INC r`, `INC (HL)` (R225, R226): one read, one write, then the flags. -/
def opInc (x : Loc8) (s : State) : State :=
  let r := inc8 (s.loc x) s.cpu.f
  (s.setLoc x r.val).setFlags r.f

/-- `DEC r`, `DEC (HL)` (R227, R228): one read, one write, then the flags. -/
def opDec (x : Loc8) (s : State) : State :=
  let r := dec8 (s.loc x) s.cpu.f
  (s.setLoc x r.val).setFlags r.f

/-- `DAA` (R229). -/
def opDaa (s : State) : State :=
  let r := daa s.cpu.a s.cpu.f
  (s.setReg .a r.val).setFlags r.f

/-- `CPL` (R230). -/
def opCpl (s : State) : State :=
  (s.setReg .a (s.cpu.a ^^^ 0xFF)).setFlags { s.cpu.f with n := true, h := true }

/-- `SCF` (R231). -/
def opScf (s : State) : State := s.setFlags { s.cpu.f with n := false, h := false, c := true }

/-- `CCF` (R232). -/
def opCcf (s : State) : State := s.setFlags { s.cpu.f with n := false, h := false, c := !s.cpu.f.c }

/-! ## Meanings -/

/-- `INC B` (04), R225. -/
def execIncB (s : State) : Result := .next (opInc (.r .b) s)

/-- `DEC B` (05), R227. -/
def execDecB (s : State) : Result := .next (opDec (.r .b) s)

/-- `INC C` (0C), R225. -/
def execIncC (s : State) : Result := .next (opInc (.r .c) s)

/-- `DEC C` (0D), R227. -/
def execDecC (s : State) : Result := .next (opDec (.r .c) s)

/-- `INC D` (14), R225. -/
def execIncD (s : State) : Result := .next (opInc (.r .d) s)

/-- `DEC D` (15), R227. -/
def execDecD (s : State) : Result := .next (opDec (.r .d) s)

/-- `INC E` (1C), R225. -/
def execIncE (s : State) : Result := .next (opInc (.r .e) s)

/-- `DEC E` (1D), R227. -/
def execDecE (s : State) : Result := .next (opDec (.r .e) s)

/-- `INC H` (24), R225. -/
def execIncH (s : State) : Result := .next (opInc (.r .h) s)

/-- `DEC H` (25), R227. -/
def execDecH (s : State) : Result := .next (opDec (.r .h) s)

/-- `DAA` (27), R229. -/
def execDaa (s : State) : Result := .next (opDaa s)

/-- `INC L` (2C), R225. -/
def execIncL (s : State) : Result := .next (opInc (.r .l) s)

/-- `DEC L` (2D), R227. -/
def execDecL (s : State) : Result := .next (opDec (.r .l) s)

/-- `CPL` (2F), R230. -/
def execCpl (s : State) : Result := .next (opCpl s)

/-- `INC (HL)` (34), R226. -/
def execIncMemHl (s : State) : Result := .next (opInc .hlMem s)

/-- `DEC (HL)` (35), R228. -/
def execDecMemHl (s : State) : Result := .next (opDec .hlMem s)

/-- `SCF` (37), R231. -/
def execScf (s : State) : Result := .next (opScf s)

/-- `INC A` (3C), R225. -/
def execIncA (s : State) : Result := .next (opInc (.r .a) s)

/-- `DEC A` (3D), R227. -/
def execDecA (s : State) : Result := .next (opDec (.r .a) s)

/-- `CCF` (3F), R232. -/
def execCcf (s : State) : Result := .next (opCcf s)

/-- `ADD A,B` (80), R201. -/
def execAddAB (s : State) : Result := .next (opAlu .add (s.reg .b) s)

/-- `ADD A,C` (81), R201. -/
def execAddAC (s : State) : Result := .next (opAlu .add (s.reg .c) s)

/-- `ADD A,D` (82), R201. -/
def execAddAD (s : State) : Result := .next (opAlu .add (s.reg .d) s)

/-- `ADD A,E` (83), R201. -/
def execAddAE (s : State) : Result := .next (opAlu .add (s.reg .e) s)

/-- `ADD A,H` (84), R201. -/
def execAddAH (s : State) : Result := .next (opAlu .add (s.reg .h) s)

/-- `ADD A,L` (85), R201. -/
def execAddAL (s : State) : Result := .next (opAlu .add (s.reg .l) s)

/-- `ADD A,(HL)` (86), R202. -/
def execAddAMemHl (s : State) : Result := .next (opAlu .add (s.busRead s.hl) s)

/-- `ADD A,A` (87), R201. -/
def execAddAA (s : State) : Result := .next (opAlu .add (s.reg .a) s)

/-- `ADC A,B` (88), R204. -/
def execAdcAB (s : State) : Result := .next (opAlu .adc (s.reg .b) s)

/-- `ADC A,C` (89), R204. -/
def execAdcAC (s : State) : Result := .next (opAlu .adc (s.reg .c) s)

/-- `ADC A,D` (8A), R204. -/
def execAdcAD (s : State) : Result := .next (opAlu .adc (s.reg .d) s)

/-- `ADC A,E` (8B), R204. -/
def execAdcAE (s : State) : Result := .next (opAlu .adc (s.reg .e) s)

/-- `ADC A,H` (8C), R204. -/
def execAdcAH (s : State) : Result := .next (opAlu .adc (s.reg .h) s)

/-- `ADC A,L` (8D), R204. -/
def execAdcAL (s : State) : Result := .next (opAlu .adc (s.reg .l) s)

/-- `ADC A,(HL)` (8E), R205. -/
def execAdcAMemHl (s : State) : Result := .next (opAlu .adc (s.busRead s.hl) s)

/-- `ADC A,A` (8F), R204. -/
def execAdcAA (s : State) : Result := .next (opAlu .adc (s.reg .a) s)

/-- `SUB B` (90), R207. -/
def execSubB (s : State) : Result := .next (opAlu .sub (s.reg .b) s)

/-- `SUB C` (91), R207. -/
def execSubC (s : State) : Result := .next (opAlu .sub (s.reg .c) s)

/-- `SUB D` (92), R207. -/
def execSubD (s : State) : Result := .next (opAlu .sub (s.reg .d) s)

/-- `SUB E` (93), R207. -/
def execSubE (s : State) : Result := .next (opAlu .sub (s.reg .e) s)

/-- `SUB H` (94), R207. -/
def execSubH (s : State) : Result := .next (opAlu .sub (s.reg .h) s)

/-- `SUB L` (95), R207. -/
def execSubL (s : State) : Result := .next (opAlu .sub (s.reg .l) s)

/-- `SUB (HL)` (96), R208. -/
def execSubMemHl (s : State) : Result := .next (opAlu .sub (s.busRead s.hl) s)

/-- `SUB A` (97), R207. -/
def execSubA (s : State) : Result := .next (opAlu .sub (s.reg .a) s)

/-- `SBC A,B` (98), R210. -/
def execSbcAB (s : State) : Result := .next (opAlu .sbc (s.reg .b) s)

/-- `SBC A,C` (99), R210. -/
def execSbcAC (s : State) : Result := .next (opAlu .sbc (s.reg .c) s)

/-- `SBC A,D` (9A), R210. -/
def execSbcAD (s : State) : Result := .next (opAlu .sbc (s.reg .d) s)

/-- `SBC A,E` (9B), R210. -/
def execSbcAE (s : State) : Result := .next (opAlu .sbc (s.reg .e) s)

/-- `SBC A,H` (9C), R210. -/
def execSbcAH (s : State) : Result := .next (opAlu .sbc (s.reg .h) s)

/-- `SBC A,L` (9D), R210. -/
def execSbcAL (s : State) : Result := .next (opAlu .sbc (s.reg .l) s)

/-- `SBC A,(HL)` (9E), R211. -/
def execSbcAMemHl (s : State) : Result := .next (opAlu .sbc (s.busRead s.hl) s)

/-- `SBC A,A` (9F), R210. -/
def execSbcAA (s : State) : Result := .next (opAlu .sbc (s.reg .a) s)

/-- `AND B` (A0), R213. -/
def execAndB (s : State) : Result := .next (opAlu .and (s.reg .b) s)

/-- `AND C` (A1), R213. -/
def execAndC (s : State) : Result := .next (opAlu .and (s.reg .c) s)

/-- `AND D` (A2), R213. -/
def execAndD (s : State) : Result := .next (opAlu .and (s.reg .d) s)

/-- `AND E` (A3), R213. -/
def execAndE (s : State) : Result := .next (opAlu .and (s.reg .e) s)

/-- `AND H` (A4), R213. -/
def execAndH (s : State) : Result := .next (opAlu .and (s.reg .h) s)

/-- `AND L` (A5), R213. -/
def execAndL (s : State) : Result := .next (opAlu .and (s.reg .l) s)

/-- `AND (HL)` (A6), R214. -/
def execAndMemHl (s : State) : Result := .next (opAlu .and (s.busRead s.hl) s)

/-- `AND A` (A7), R213. -/
def execAndA (s : State) : Result := .next (opAlu .and (s.reg .a) s)

/-- `XOR B` (A8), R216. -/
def execXorB (s : State) : Result := .next (opAlu .xor (s.reg .b) s)

/-- `XOR C` (A9), R216. -/
def execXorC (s : State) : Result := .next (opAlu .xor (s.reg .c) s)

/-- `XOR D` (AA), R216. -/
def execXorD (s : State) : Result := .next (opAlu .xor (s.reg .d) s)

/-- `XOR E` (AB), R216. -/
def execXorE (s : State) : Result := .next (opAlu .xor (s.reg .e) s)

/-- `XOR H` (AC), R216. -/
def execXorH (s : State) : Result := .next (opAlu .xor (s.reg .h) s)

/-- `XOR L` (AD), R216. -/
def execXorL (s : State) : Result := .next (opAlu .xor (s.reg .l) s)

/-- `XOR (HL)` (AE), R217. -/
def execXorMemHl (s : State) : Result := .next (opAlu .xor (s.busRead s.hl) s)

/-- `XOR A` (AF), R216. -/
def execXorA (s : State) : Result := .next (opAlu .xor (s.reg .a) s)

/-- `OR B` (B0), R219. -/
def execOrB (s : State) : Result := .next (opAlu .or (s.reg .b) s)

/-- `OR C` (B1), R219. -/
def execOrC (s : State) : Result := .next (opAlu .or (s.reg .c) s)

/-- `OR D` (B2), R219. -/
def execOrD (s : State) : Result := .next (opAlu .or (s.reg .d) s)

/-- `OR E` (B3), R219. -/
def execOrE (s : State) : Result := .next (opAlu .or (s.reg .e) s)

/-- `OR H` (B4), R219. -/
def execOrH (s : State) : Result := .next (opAlu .or (s.reg .h) s)

/-- `OR L` (B5), R219. -/
def execOrL (s : State) : Result := .next (opAlu .or (s.reg .l) s)

/-- `OR (HL)` (B6), R220. -/
def execOrMemHl (s : State) : Result := .next (opAlu .or (s.busRead s.hl) s)

/-- `OR A` (B7), R219. -/
def execOrA (s : State) : Result := .next (opAlu .or (s.reg .a) s)

/-- `CP B` (B8), R222. -/
def execCpB (s : State) : Result := .next (opAlu .cp (s.reg .b) s)

/-- `CP C` (B9), R222. -/
def execCpC (s : State) : Result := .next (opAlu .cp (s.reg .c) s)

/-- `CP D` (BA), R222. -/
def execCpD (s : State) : Result := .next (opAlu .cp (s.reg .d) s)

/-- `CP E` (BB), R222. -/
def execCpE (s : State) : Result := .next (opAlu .cp (s.reg .e) s)

/-- `CP H` (BC), R222. -/
def execCpH (s : State) : Result := .next (opAlu .cp (s.reg .h) s)

/-- `CP L` (BD), R222. -/
def execCpL (s : State) : Result := .next (opAlu .cp (s.reg .l) s)

/-- `CP (HL)` (BE), R223. -/
def execCpMemHl (s : State) : Result := .next (opAlu .cp (s.busRead s.hl) s)

/-- `CP A` (BF), R222. -/
def execCpA (s : State) : Result := .next (opAlu .cp (s.reg .a) s)

/-- `ADD A,d8` (C6), R203. -/
def execAddAD8 (n : Byte) (s : State) : Result := .next (opAlu .add n s)

/-- `ADC A,d8` (CE), R206. -/
def execAdcAD8 (n : Byte) (s : State) : Result := .next (opAlu .adc n s)

/-- `SUB d8` (D6), R209. -/
def execSubD8 (n : Byte) (s : State) : Result := .next (opAlu .sub n s)

/-- `SBC A,d8` (DE), R212. -/
def execSbcAD8 (n : Byte) (s : State) : Result := .next (opAlu .sbc n s)

/-- `AND d8` (E6), R215. -/
def execAndD8 (n : Byte) (s : State) : Result := .next (opAlu .and n s)

/-- `XOR d8` (EE), R218. -/
def execXorD8 (n : Byte) (s : State) : Result := .next (opAlu .xor n s)

/-- `OR d8` (F6), R221. -/
def execOrD8 (n : Byte) (s : State) : Result := .next (opAlu .or n s)

/-- `CP d8` (FE), R224. -/
def execCpD8 (n : Byte) (s : State) : Result := .next (opAlu .cp n s)

end Sys2Proof.Machine
end

