-- ==== Sys2Proof/Machine/Control.lean ====
section
/-! DEFINITION. Control transfer (spec/45_control.md R280 to R292). Each meaning runs with `PC` past the whole instruction, which
is the value a call pushes and a relative jump counts from. -/

namespace Sys2Proof.Machine

/-! ## Shared operations -/

/-- A conditional instruction (R280): the condition is that of the flags at the start. -/
def opIf (cc : Cond) (f : State → State) (s : State) : State := if s.cpu.f.holds cc then f s else s

/-- `JR e8` (R284). -/
def opJr (e : Byte) (s : State) : State := s.setPc (relTarget s.cpu.pc e)

/-- `CALL a16` (R286). -/
def opCall (a : Word) (s : State) : State := (s.push16 s.cpu.pc).setPc a

/-- `RET` (R288). -/
def opRet (s : State) : State :=
  let (pc, t) := s.pop16
  t.setPc pc

/-- `RST n` (R292): a call of `8 * y`. -/
def opRst (y : RstIndex) (s : State) : State := opCall (BitVec.ofNat 16 (8 * y.val)) s

/-! ## Meanings -/

/-- `JR e8` (18), R284. -/
def execJrE8 (e : Byte) (s : State) : Result := .next (opJr e s)

/-- `JR NZ,e8` (20), R285. -/
def execJrNzE8 (e : Byte) (s : State) : Result := .next (opIf .nz (opJr e) s)

/-- `JR Z,e8` (28), R285. -/
def execJrZE8 (e : Byte) (s : State) : Result := .next (opIf .z (opJr e) s)

/-- `JR NC,e8` (30), R285. -/
def execJrNcE8 (e : Byte) (s : State) : Result := .next (opIf .nc (opJr e) s)

/-- `JR C,e8` (38), R285. -/
def execJrCE8 (e : Byte) (s : State) : Result := .next (opIf .c (opJr e) s)

/-- `RET NZ` (C0), R289. -/
def execRetNz (s : State) : Result := .next (opIf .nz opRet s)

/-- `JP NZ,a16` (C2), R282. -/
def execJpNzA16 (v : Word) (s : State) : Result := .next (opIf .nz (fun t => t.setPc v) s)

/-- `JP a16` (C3), R281. -/
def execJpA16 (v : Word) (s : State) : Result := .next (s.setPc v)

/-- `CALL NZ,a16` (C4), R287. -/
def execCallNzA16 (v : Word) (s : State) : Result := .next (opIf .nz (opCall v) s)

/-- `RST 00H` (C7), R292. -/
def execRst00 (s : State) : Result := .next (opRst 0 s)

/-- `RET Z` (C8), R289. -/
def execRetZ (s : State) : Result := .next (opIf .z opRet s)

/-- `RET` (C9), R288. -/
def execRet (s : State) : Result := .next (opRet s)

/-- `JP Z,a16` (CA), R282. -/
def execJpZA16 (v : Word) (s : State) : Result := .next (opIf .z (fun t => t.setPc v) s)

/-- `CALL Z,a16` (CC), R287. -/
def execCallZA16 (v : Word) (s : State) : Result := .next (opIf .z (opCall v) s)

/-- `CALL a16` (CD), R286. -/
def execCallA16 (v : Word) (s : State) : Result := .next (opCall v s)

/-- `RST 08H` (CF), R292. -/
def execRst08 (s : State) : Result := .next (opRst 1 s)

/-- `RET NC` (D0), R289. -/
def execRetNc (s : State) : Result := .next (opIf .nc opRet s)

/-- `JP NC,a16` (D2), R282. -/
def execJpNcA16 (v : Word) (s : State) : Result := .next (opIf .nc (fun t => t.setPc v) s)

/-- `CALL NC,a16` (D4), R287. -/
def execCallNcA16 (v : Word) (s : State) : Result := .next (opIf .nc (opCall v) s)

/-- `RST 10H` (D7), R292. -/
def execRst10 (s : State) : Result := .next (opRst 2 s)

/-- `RET C` (D8), R289. -/
def execRetC (s : State) : Result := .next (opIf .c opRet s)

/-- `RETI` (D9), R290. -/
def execReti (s : State) : Result := .next s.returnFromInterrupt

/-- `JP C,a16` (DA), R282. -/
def execJpCA16 (v : Word) (s : State) : Result := .next (opIf .c (fun t => t.setPc v) s)

/-- `CALL C,a16` (DC), R287. -/
def execCallCA16 (v : Word) (s : State) : Result := .next (opIf .c (opCall v) s)

/-- `RST 18H` (DF), R292. -/
def execRst18 (s : State) : Result := .next (opRst 3 s)

/-- `RST 20H` (E7), R292. -/
def execRst20 (s : State) : Result := .next (opRst 4 s)

/-- `JP HL` (E9), R283. -/
def execJpHl (s : State) : Result := .next (s.setPc s.hl)

/-- `RST 28H` (EF), R292. -/
def execRst28 (s : State) : Result := .next (opRst 5 s)

/-- `RST 30H` (F7), R292. -/
def execRst30 (s : State) : Result := .next (opRst 6 s)

/-- `RST 38H` (FF), R292. -/
def execRst38 (s : State) : Result := .next (opRst 7 s)

end Sys2Proof.Machine
end

