-- ==== Sys2Proof/Machine/Load16.lean ====
section
/-! DEFINITION. 16-bit loads and the stack instructions (spec/41_load16.md R190 to R196). -/

namespace Sys2Proof.Machine

/-! ## Shared operations -/

/-- `LD rr,d16` (R191). -/
def opLdPair (p : Pair) (v : Word) (s : State) : State := s.setPair p v

/-- `LD (a16),SP` (R193): the low byte at `a`, then the high byte at `a + 1`. -/
def opStoreSp (a : Word) (s : State) : State :=
  (s.busWrite a (loByte s.cpu.sp)).busWrite (a + 1) (hiByte s.cpu.sp)

/-- `PUSH rr` (R194). -/
def opPush (p : StackPair) (s : State) : State := s.push16 (s.stackPair p)

/-- `POP rr` (R195). -/
def opPop (p : StackPair) (s : State) : State :=
  let (v, t) := s.pop16
  t.setStackPair p v

/-- `LD HL,SP+e8` (R196). -/
def opLdHlSp (e : Byte) (s : State) : State :=
  let r := addSp16 s.cpu.sp e
  (s.setHl r.val).setFlags r.f

/-! ## Meanings -/

/-- `LD BC,d16` (01), R191. -/
def execLdBcD16 (v : Word) (s : State) : Result := .next (opLdPair .bc v s)

/-- `LD (a16),SP` (08), R193. -/
def execLdMemA16Sp (v : Word) (s : State) : Result := .next (opStoreSp v s)

/-- `LD DE,d16` (11), R191. -/
def execLdDeD16 (v : Word) (s : State) : Result := .next (opLdPair .de v s)

/-- `LD HL,d16` (21), R191. -/
def execLdHlD16 (v : Word) (s : State) : Result := .next (opLdPair .hl v s)

/-- `LD SP,d16` (31), R191. -/
def execLdSpD16 (v : Word) (s : State) : Result := .next (opLdPair .sp v s)

/-- `POP BC` (C1), R195. -/
def execPopBc (s : State) : Result := .next (opPop .bc s)

/-- `PUSH BC` (C5), R194. -/
def execPushBc (s : State) : Result := .next (opPush .bc s)

/-- `POP DE` (D1), R195. -/
def execPopDe (s : State) : Result := .next (opPop .de s)

/-- `PUSH DE` (D5), R194. -/
def execPushDe (s : State) : Result := .next (opPush .de s)

/-- `POP HL` (E1), R195. -/
def execPopHl (s : State) : Result := .next (opPop .hl s)

/-- `PUSH HL` (E5), R194. -/
def execPushHl (s : State) : Result := .next (opPush .hl s)

/-- `POP AF` (F1), R195. -/
def execPopAf (s : State) : Result := .next (opPop .af s)

/-- `PUSH AF` (F5), R194. -/
def execPushAf (s : State) : Result := .next (opPush .af s)

/-- `LD HL,SP+e8` (F8), R196. -/
def execLdHlSpE8 (e : Byte) (s : State) : Result := .next (opLdHlSp e s)

/-- `LD SP,HL` (F9), R192. -/
def execLdSpHl (s : State) : Result := .next (s.setSp s.hl)

end Sys2Proof.Machine
end

