-- ==== Sys2Proof/Machine/Load8.lean ====
section
/-! DEFINITION. 8-bit loads (spec/40_load8.md R160 to R178). No load writes a flag (10_state.md R26). Each meaning runs with `PC`
past the whole instruction. -/

namespace Sys2Proof.Machine

/-! ## Shared operations -/

/-- `LD r,r'` (R160). -/
def opLdRR (q r : Reg8) (s : State) : State := s.setReg q (s.reg r)

/-- `LD r,d8` (R161). -/
def opLdRN (q : Reg8) (n : Byte) (s : State) : State := s.setReg q n

/-- A register gets the byte at an address (R162, R165, R166, R169, R173, R174, R176, R178). -/
def opLoad (q : Reg8) (addr : Word) (s : State) : State := s.setReg q (s.busRead addr)

/-- A byte is stored at an address (R163, R164, R167, R168, R170, R171, R172, R175, R177). -/
def opStore (addr : Word) (v : Byte) (s : State) : State := s.busWrite addr v

/-- `HL <- (HL + 1) mod 65536` (R171, R173). -/
def opHlUp (s : State) : State := s.setHl (s.hl + 1)

/-- `HL <- (HL - 1) mod 65536` (R172, R174). -/
def opHlDown (s : State) : State := s.setHl (s.hl - 1)

/-! ## Meanings -/

/-- `LD (BC),A` (02), R167. -/
def execLdMemBcA (s : State) : Result := .next (opStore s.bc s.cpu.a s)

/-- `LD B,d8` (06), R161. -/
def execLdBD8 (n : Byte) (s : State) : Result := .next (opLdRN .b n s)

/-- `LD A,(BC)` (0A), R165. -/
def execLdAMemBc (s : State) : Result := .next (opLoad .a s.bc s)

/-- `LD C,d8` (0E), R161. -/
def execLdCD8 (n : Byte) (s : State) : Result := .next (opLdRN .c n s)

/-- `LD (DE),A` (12), R168. -/
def execLdMemDeA (s : State) : Result := .next (opStore s.de s.cpu.a s)

/-- `LD D,d8` (16), R161. -/
def execLdDD8 (n : Byte) (s : State) : Result := .next (opLdRN .d n s)

/-- `LD A,(DE)` (1A), R166. -/
def execLdAMemDe (s : State) : Result := .next (opLoad .a s.de s)

/-- `LD E,d8` (1E), R161. -/
def execLdED8 (n : Byte) (s : State) : Result := .next (opLdRN .e n s)

/-- `LD (HL+),A` (22), R171. -/
def execLdMemHlIncA (s : State) : Result := .next (opHlUp (opStore s.hl s.cpu.a s))

/-- `LD H,d8` (26), R161. -/
def execLdHD8 (n : Byte) (s : State) : Result := .next (opLdRN .h n s)

/-- `LD A,(HL+)` (2A), R173. -/
def execLdAMemHlInc (s : State) : Result := .next (opHlUp (opLoad .a s.hl s))

/-- `LD L,d8` (2E), R161. -/
def execLdLD8 (n : Byte) (s : State) : Result := .next (opLdRN .l n s)

/-- `LD (HL-),A` (32), R172. -/
def execLdMemHlDecA (s : State) : Result := .next (opHlDown (opStore s.hl s.cpu.a s))

/-- `LD (HL),d8` (36), R164. -/
def execLdMemHlD8 (n : Byte) (s : State) : Result := .next (opStore s.hl n s)

/-- `LD A,(HL-)` (3A), R174. -/
def execLdAMemHlDec (s : State) : Result := .next (opHlDown (opLoad .a s.hl s))

/-- `LD A,d8` (3E), R161. -/
def execLdAD8 (n : Byte) (s : State) : Result := .next (opLdRN .a n s)

/-- `LD B,B` (40), R160. -/
def execLdBB (s : State) : Result := .next (opLdRR .b .b s)

/-- `LD B,C` (41), R160. -/
def execLdBC (s : State) : Result := .next (opLdRR .b .c s)

/-- `LD B,D` (42), R160. -/
def execLdBD (s : State) : Result := .next (opLdRR .b .d s)

/-- `LD B,E` (43), R160. -/
def execLdBE (s : State) : Result := .next (opLdRR .b .e s)

/-- `LD B,H` (44), R160. -/
def execLdBH (s : State) : Result := .next (opLdRR .b .h s)

/-- `LD B,L` (45), R160. -/
def execLdBL (s : State) : Result := .next (opLdRR .b .l s)

/-- `LD B,(HL)` (46), R162. -/
def execLdBMemHl (s : State) : Result := .next (opLoad .b s.hl s)

/-- `LD B,A` (47), R160. -/
def execLdBA (s : State) : Result := .next (opLdRR .b .a s)

/-- `LD C,B` (48), R160. -/
def execLdCB (s : State) : Result := .next (opLdRR .c .b s)

/-- `LD C,C` (49), R160. -/
def execLdCC (s : State) : Result := .next (opLdRR .c .c s)

/-- `LD C,D` (4A), R160. -/
def execLdCD (s : State) : Result := .next (opLdRR .c .d s)

/-- `LD C,E` (4B), R160. -/
def execLdCE (s : State) : Result := .next (opLdRR .c .e s)

/-- `LD C,H` (4C), R160. -/
def execLdCH (s : State) : Result := .next (opLdRR .c .h s)

/-- `LD C,L` (4D), R160. -/
def execLdCL (s : State) : Result := .next (opLdRR .c .l s)

/-- `LD C,(HL)` (4E), R162. -/
def execLdCMemHl (s : State) : Result := .next (opLoad .c s.hl s)

/-- `LD C,A` (4F), R160. -/
def execLdCA (s : State) : Result := .next (opLdRR .c .a s)

/-- `LD D,B` (50), R160. -/
def execLdDB (s : State) : Result := .next (opLdRR .d .b s)

/-- `LD D,C` (51), R160. -/
def execLdDC (s : State) : Result := .next (opLdRR .d .c s)

/-- `LD D,D` (52), R160. -/
def execLdDD (s : State) : Result := .next (opLdRR .d .d s)

/-- `LD D,E` (53), R160. -/
def execLdDE (s : State) : Result := .next (opLdRR .d .e s)

/-- `LD D,H` (54), R160. -/
def execLdDH (s : State) : Result := .next (opLdRR .d .h s)

/-- `LD D,L` (55), R160. -/
def execLdDL (s : State) : Result := .next (opLdRR .d .l s)

/-- `LD D,(HL)` (56), R162. -/
def execLdDMemHl (s : State) : Result := .next (opLoad .d s.hl s)

/-- `LD D,A` (57), R160. -/
def execLdDA (s : State) : Result := .next (opLdRR .d .a s)

/-- `LD E,B` (58), R160. -/
def execLdEB (s : State) : Result := .next (opLdRR .e .b s)

/-- `LD E,C` (59), R160. -/
def execLdEC (s : State) : Result := .next (opLdRR .e .c s)

/-- `LD E,D` (5A), R160. -/
def execLdED (s : State) : Result := .next (opLdRR .e .d s)

/-- `LD E,E` (5B), R160. -/
def execLdEE (s : State) : Result := .next (opLdRR .e .e s)

/-- `LD E,H` (5C), R160. -/
def execLdEH (s : State) : Result := .next (opLdRR .e .h s)

/-- `LD E,L` (5D), R160. -/
def execLdEL (s : State) : Result := .next (opLdRR .e .l s)

/-- `LD E,(HL)` (5E), R162. -/
def execLdEMemHl (s : State) : Result := .next (opLoad .e s.hl s)

/-- `LD E,A` (5F), R160. -/
def execLdEA (s : State) : Result := .next (opLdRR .e .a s)

/-- `LD H,B` (60), R160. -/
def execLdHB (s : State) : Result := .next (opLdRR .h .b s)

/-- `LD H,C` (61), R160. -/
def execLdHC (s : State) : Result := .next (opLdRR .h .c s)

/-- `LD H,D` (62), R160. -/
def execLdHD (s : State) : Result := .next (opLdRR .h .d s)

/-- `LD H,E` (63), R160. -/
def execLdHE (s : State) : Result := .next (opLdRR .h .e s)

/-- `LD H,H` (64), R160. -/
def execLdHH (s : State) : Result := .next (opLdRR .h .h s)

/-- `LD H,L` (65), R160. -/
def execLdHL (s : State) : Result := .next (opLdRR .h .l s)

/-- `LD H,(HL)` (66), R162. -/
def execLdHMemHl (s : State) : Result := .next (opLoad .h s.hl s)

/-- `LD H,A` (67), R160. -/
def execLdHA (s : State) : Result := .next (opLdRR .h .a s)

/-- `LD L,B` (68), R160. -/
def execLdLB (s : State) : Result := .next (opLdRR .l .b s)

/-- `LD L,C` (69), R160. -/
def execLdLC (s : State) : Result := .next (opLdRR .l .c s)

/-- `LD L,D` (6A), R160. -/
def execLdLD (s : State) : Result := .next (opLdRR .l .d s)

/-- `LD L,E` (6B), R160. -/
def execLdLE (s : State) : Result := .next (opLdRR .l .e s)

/-- `LD L,H` (6C), R160. -/
def execLdLH (s : State) : Result := .next (opLdRR .l .h s)

/-- `LD L,L` (6D), R160. -/
def execLdLL (s : State) : Result := .next (opLdRR .l .l s)

/-- `LD L,(HL)` (6E), R162. -/
def execLdLMemHl (s : State) : Result := .next (opLoad .l s.hl s)

/-- `LD L,A` (6F), R160. -/
def execLdLA (s : State) : Result := .next (opLdRR .l .a s)

/-- `LD (HL),B` (70), R163. -/
def execLdMemHlB (s : State) : Result := .next (opStore s.hl (s.reg .b) s)

/-- `LD (HL),C` (71), R163. -/
def execLdMemHlC (s : State) : Result := .next (opStore s.hl (s.reg .c) s)

/-- `LD (HL),D` (72), R163. -/
def execLdMemHlD (s : State) : Result := .next (opStore s.hl (s.reg .d) s)

/-- `LD (HL),E` (73), R163. -/
def execLdMemHlE (s : State) : Result := .next (opStore s.hl (s.reg .e) s)

/-- `LD (HL),H` (74), R163. -/
def execLdMemHlH (s : State) : Result := .next (opStore s.hl (s.reg .h) s)

/-- `LD (HL),L` (75), R163. -/
def execLdMemHlL (s : State) : Result := .next (opStore s.hl (s.reg .l) s)

/-- `LD (HL),A` (77), R163. -/
def execLdMemHlA (s : State) : Result := .next (opStore s.hl (s.reg .a) s)

/-- `LD A,B` (78), R160. -/
def execLdAB (s : State) : Result := .next (opLdRR .a .b s)

/-- `LD A,C` (79), R160. -/
def execLdAC (s : State) : Result := .next (opLdRR .a .c s)

/-- `LD A,D` (7A), R160. -/
def execLdAD (s : State) : Result := .next (opLdRR .a .d s)

/-- `LD A,E` (7B), R160. -/
def execLdAE (s : State) : Result := .next (opLdRR .a .e s)

/-- `LD A,H` (7C), R160. -/
def execLdAH (s : State) : Result := .next (opLdRR .a .h s)

/-- `LD A,L` (7D), R160. -/
def execLdAL (s : State) : Result := .next (opLdRR .a .l s)

/-- `LD A,(HL)` (7E), R162. -/
def execLdAMemHl (s : State) : Result := .next (opLoad .a s.hl s)

/-- `LD A,A` (7F), R160. -/
def execLdAA (s : State) : Result := .next (opLdRR .a .a s)

/-- `LDH (a8),A` (E0), R175. -/
def execLdhMemA8A (n : Byte) (s : State) : Result := .next (opStore (highPage n) s.cpu.a s)

/-- `LD (C),A` (E2), R177. -/
def execLdMemCA (s : State) : Result := .next (opStore (highPage s.cpu.c) s.cpu.a s)

/-- `LD (a16),A` (EA), R170. -/
def execLdMemA16A (v : Word) (s : State) : Result := .next (opStore v s.cpu.a s)

/-- `LDH A,(a8)` (F0), R176. -/
def execLdhAMemA8 (n : Byte) (s : State) : Result := .next (opLoad .a (highPage n) s)

/-- `LD A,(C)` (F2), R178. -/
def execLdAMemC (s : State) : Result := .next (opLoad .a (highPage s.cpu.c) s)

/-- `LD A,(a16)` (FA), R169. -/
def execLdAMemA16 (v : Word) (s : State) : Result := .next (opLoad .a v s)

end Sys2Proof.Machine
end

