-- ==== Sys2Proof/Machine/Rotate.lean ====
section
/-! DEFINITION. Rotates, shifts and bit operations (spec/44_rotate_shift_bit.md R250 to R276). -/

namespace Sys2Proof.Machine

/-! ## Shared operations -/

/-- `RLCA`, `RRCA`, `RLA`, `RRA` (R250 to R253): as the CB rotate of A, but Z is forced to 0. -/
def opRotA (op : RotOp) (s : State) : State :=
  let r := rot8 op s.cpu.a s.cpu.f.c
  (s.setReg .a r.val).setFlags { r.f with z := false }

/-- A CB rotate or shift of a register or the byte at HL (R254 to R270). -/
def opRot (op : RotOp) (x : Loc8) (s : State) : State :=
  let r := rot8 op (s.loc x) s.cpu.f.c
  (s.setLoc x r.val).setFlags r.f

/-- `BIT n` (R271, R272): nothing is written but the flags. -/
def opBit (n : BitIndex) (x : Loc8) (s : State) : State := s.setFlags (bitFlags n (s.loc x) s.cpu.f)

/-- `RES n` (R273, R274). -/
def opRes (n : BitIndex) (x : Loc8) (s : State) : State := s.setLoc x (resBit n (s.loc x))

/-- `SET n` (R275, R276). -/
def opSet (n : BitIndex) (x : Loc8) (s : State) : State := s.setLoc x (setBit n (s.loc x))

/-! ## Meanings -/

/-- `RLCA` (07), R250. -/
def execRlca (s : State) : Result := .next (opRotA .rlc s)

/-- `RRCA` (0F), R251. -/
def execRrca (s : State) : Result := .next (opRotA .rrc s)

/-- `RLA` (17), R252. -/
def execRla (s : State) : Result := .next (opRotA .rl s)

/-- `RRA` (1F), R253. -/
def execRra (s : State) : Result := .next (opRotA .rr s)

/-- `RLC B` (CB 00), R255. -/
def execRlcB (s : State) : Result := .next (opRot .rlc (.r .b) s)

/-- `RLC C` (CB 01), R255. -/
def execRlcC (s : State) : Result := .next (opRot .rlc (.r .c) s)

/-- `RLC D` (CB 02), R255. -/
def execRlcD (s : State) : Result := .next (opRot .rlc (.r .d) s)

/-- `RLC E` (CB 03), R255. -/
def execRlcE (s : State) : Result := .next (opRot .rlc (.r .e) s)

/-- `RLC H` (CB 04), R255. -/
def execRlcH (s : State) : Result := .next (opRot .rlc (.r .h) s)

/-- `RLC L` (CB 05), R255. -/
def execRlcL (s : State) : Result := .next (opRot .rlc (.r .l) s)

/-- `RLC (HL)` (CB 06), R256. -/
def execRlcMemHl (s : State) : Result := .next (opRot .rlc .hlMem s)

/-- `RLC A` (CB 07), R255. -/
def execRlcA (s : State) : Result := .next (opRot .rlc (.r .a) s)

/-- `RRC B` (CB 08), R257. -/
def execRrcB (s : State) : Result := .next (opRot .rrc (.r .b) s)

/-- `RRC C` (CB 09), R257. -/
def execRrcC (s : State) : Result := .next (opRot .rrc (.r .c) s)

/-- `RRC D` (CB 0A), R257. -/
def execRrcD (s : State) : Result := .next (opRot .rrc (.r .d) s)

/-- `RRC E` (CB 0B), R257. -/
def execRrcE (s : State) : Result := .next (opRot .rrc (.r .e) s)

/-- `RRC H` (CB 0C), R257. -/
def execRrcH (s : State) : Result := .next (opRot .rrc (.r .h) s)

/-- `RRC L` (CB 0D), R257. -/
def execRrcL (s : State) : Result := .next (opRot .rrc (.r .l) s)

/-- `RRC (HL)` (CB 0E), R258. -/
def execRrcMemHl (s : State) : Result := .next (opRot .rrc .hlMem s)

/-- `RRC A` (CB 0F), R257. -/
def execRrcA (s : State) : Result := .next (opRot .rrc (.r .a) s)

/-- `RL B` (CB 10), R259. -/
def execRlB (s : State) : Result := .next (opRot .rl (.r .b) s)

/-- `RL C` (CB 11), R259. -/
def execRlC (s : State) : Result := .next (opRot .rl (.r .c) s)

/-- `RL D` (CB 12), R259. -/
def execRlD (s : State) : Result := .next (opRot .rl (.r .d) s)

/-- `RL E` (CB 13), R259. -/
def execRlE (s : State) : Result := .next (opRot .rl (.r .e) s)

/-- `RL H` (CB 14), R259. -/
def execRlH (s : State) : Result := .next (opRot .rl (.r .h) s)

/-- `RL L` (CB 15), R259. -/
def execRlL (s : State) : Result := .next (opRot .rl (.r .l) s)

/-- `RL (HL)` (CB 16), R260. -/
def execRlMemHl (s : State) : Result := .next (opRot .rl .hlMem s)

/-- `RL A` (CB 17), R259. -/
def execRlA (s : State) : Result := .next (opRot .rl (.r .a) s)

/-- `RR B` (CB 18), R261. -/
def execRrB (s : State) : Result := .next (opRot .rr (.r .b) s)

/-- `RR C` (CB 19), R261. -/
def execRrC (s : State) : Result := .next (opRot .rr (.r .c) s)

/-- `RR D` (CB 1A), R261. -/
def execRrD (s : State) : Result := .next (opRot .rr (.r .d) s)

/-- `RR E` (CB 1B), R261. -/
def execRrE (s : State) : Result := .next (opRot .rr (.r .e) s)

/-- `RR H` (CB 1C), R261. -/
def execRrH (s : State) : Result := .next (opRot .rr (.r .h) s)

/-- `RR L` (CB 1D), R261. -/
def execRrL (s : State) : Result := .next (opRot .rr (.r .l) s)

/-- `RR (HL)` (CB 1E), R262. -/
def execRrMemHl (s : State) : Result := .next (opRot .rr .hlMem s)

/-- `RR A` (CB 1F), R261. -/
def execRrA (s : State) : Result := .next (opRot .rr (.r .a) s)

/-- `SLA B` (CB 20), R263. -/
def execSlaB (s : State) : Result := .next (opRot .sla (.r .b) s)

/-- `SLA C` (CB 21), R263. -/
def execSlaC (s : State) : Result := .next (opRot .sla (.r .c) s)

/-- `SLA D` (CB 22), R263. -/
def execSlaD (s : State) : Result := .next (opRot .sla (.r .d) s)

/-- `SLA E` (CB 23), R263. -/
def execSlaE (s : State) : Result := .next (opRot .sla (.r .e) s)

/-- `SLA H` (CB 24), R263. -/
def execSlaH (s : State) : Result := .next (opRot .sla (.r .h) s)

/-- `SLA L` (CB 25), R263. -/
def execSlaL (s : State) : Result := .next (opRot .sla (.r .l) s)

/-- `SLA (HL)` (CB 26), R264. -/
def execSlaMemHl (s : State) : Result := .next (opRot .sla .hlMem s)

/-- `SLA A` (CB 27), R263. -/
def execSlaA (s : State) : Result := .next (opRot .sla (.r .a) s)

/-- `SRA B` (CB 28), R265. -/
def execSraB (s : State) : Result := .next (opRot .sra (.r .b) s)

/-- `SRA C` (CB 29), R265. -/
def execSraC (s : State) : Result := .next (opRot .sra (.r .c) s)

/-- `SRA D` (CB 2A), R265. -/
def execSraD (s : State) : Result := .next (opRot .sra (.r .d) s)

/-- `SRA E` (CB 2B), R265. -/
def execSraE (s : State) : Result := .next (opRot .sra (.r .e) s)

/-- `SRA H` (CB 2C), R265. -/
def execSraH (s : State) : Result := .next (opRot .sra (.r .h) s)

/-- `SRA L` (CB 2D), R265. -/
def execSraL (s : State) : Result := .next (opRot .sra (.r .l) s)

/-- `SRA (HL)` (CB 2E), R266. -/
def execSraMemHl (s : State) : Result := .next (opRot .sra .hlMem s)

/-- `SRA A` (CB 2F), R265. -/
def execSraA (s : State) : Result := .next (opRot .sra (.r .a) s)

/-- `SWAP B` (CB 30), R267. -/
def execSwapB (s : State) : Result := .next (opRot .swap (.r .b) s)

/-- `SWAP C` (CB 31), R267. -/
def execSwapC (s : State) : Result := .next (opRot .swap (.r .c) s)

/-- `SWAP D` (CB 32), R267. -/
def execSwapD (s : State) : Result := .next (opRot .swap (.r .d) s)

/-- `SWAP E` (CB 33), R267. -/
def execSwapE (s : State) : Result := .next (opRot .swap (.r .e) s)

/-- `SWAP H` (CB 34), R267. -/
def execSwapH (s : State) : Result := .next (opRot .swap (.r .h) s)

/-- `SWAP L` (CB 35), R267. -/
def execSwapL (s : State) : Result := .next (opRot .swap (.r .l) s)

/-- `SWAP (HL)` (CB 36), R268. -/
def execSwapMemHl (s : State) : Result := .next (opRot .swap .hlMem s)

/-- `SWAP A` (CB 37), R267. -/
def execSwapA (s : State) : Result := .next (opRot .swap (.r .a) s)

/-- `SRL B` (CB 38), R269. -/
def execSrlB (s : State) : Result := .next (opRot .srl (.r .b) s)

/-- `SRL C` (CB 39), R269. -/
def execSrlC (s : State) : Result := .next (opRot .srl (.r .c) s)

/-- `SRL D` (CB 3A), R269. -/
def execSrlD (s : State) : Result := .next (opRot .srl (.r .d) s)

/-- `SRL E` (CB 3B), R269. -/
def execSrlE (s : State) : Result := .next (opRot .srl (.r .e) s)

/-- `SRL H` (CB 3C), R269. -/
def execSrlH (s : State) : Result := .next (opRot .srl (.r .h) s)

/-- `SRL L` (CB 3D), R269. -/
def execSrlL (s : State) : Result := .next (opRot .srl (.r .l) s)

/-- `SRL (HL)` (CB 3E), R270. -/
def execSrlMemHl (s : State) : Result := .next (opRot .srl .hlMem s)

/-- `SRL A` (CB 3F), R269. -/
def execSrlA (s : State) : Result := .next (opRot .srl (.r .a) s)

/-- `BIT 0,B` (CB 40), R271. -/
def execBit0B (s : State) : Result := .next (opBit 0 (.r .b) s)

/-- `BIT 0,C` (CB 41), R271. -/
def execBit0C (s : State) : Result := .next (opBit 0 (.r .c) s)

/-- `BIT 0,D` (CB 42), R271. -/
def execBit0D (s : State) : Result := .next (opBit 0 (.r .d) s)

/-- `BIT 0,E` (CB 43), R271. -/
def execBit0E (s : State) : Result := .next (opBit 0 (.r .e) s)

/-- `BIT 0,H` (CB 44), R271. -/
def execBit0H (s : State) : Result := .next (opBit 0 (.r .h) s)

/-- `BIT 0,L` (CB 45), R271. -/
def execBit0L (s : State) : Result := .next (opBit 0 (.r .l) s)

/-- `BIT 0,(HL)` (CB 46), R272. -/
def execBit0MemHl (s : State) : Result := .next (opBit 0 .hlMem s)

/-- `BIT 0,A` (CB 47), R271. -/
def execBit0A (s : State) : Result := .next (opBit 0 (.r .a) s)

/-- `BIT 1,B` (CB 48), R271. -/
def execBit1B (s : State) : Result := .next (opBit 1 (.r .b) s)

/-- `BIT 1,C` (CB 49), R271. -/
def execBit1C (s : State) : Result := .next (opBit 1 (.r .c) s)

/-- `BIT 1,D` (CB 4A), R271. -/
def execBit1D (s : State) : Result := .next (opBit 1 (.r .d) s)

/-- `BIT 1,E` (CB 4B), R271. -/
def execBit1E (s : State) : Result := .next (opBit 1 (.r .e) s)

/-- `BIT 1,H` (CB 4C), R271. -/
def execBit1H (s : State) : Result := .next (opBit 1 (.r .h) s)

/-- `BIT 1,L` (CB 4D), R271. -/
def execBit1L (s : State) : Result := .next (opBit 1 (.r .l) s)

/-- `BIT 1,(HL)` (CB 4E), R272. -/
def execBit1MemHl (s : State) : Result := .next (opBit 1 .hlMem s)

/-- `BIT 1,A` (CB 4F), R271. -/
def execBit1A (s : State) : Result := .next (opBit 1 (.r .a) s)

/-- `BIT 2,B` (CB 50), R271. -/
def execBit2B (s : State) : Result := .next (opBit 2 (.r .b) s)

/-- `BIT 2,C` (CB 51), R271. -/
def execBit2C (s : State) : Result := .next (opBit 2 (.r .c) s)

/-- `BIT 2,D` (CB 52), R271. -/
def execBit2D (s : State) : Result := .next (opBit 2 (.r .d) s)

/-- `BIT 2,E` (CB 53), R271. -/
def execBit2E (s : State) : Result := .next (opBit 2 (.r .e) s)

/-- `BIT 2,H` (CB 54), R271. -/
def execBit2H (s : State) : Result := .next (opBit 2 (.r .h) s)

/-- `BIT 2,L` (CB 55), R271. -/
def execBit2L (s : State) : Result := .next (opBit 2 (.r .l) s)

/-- `BIT 2,(HL)` (CB 56), R272. -/
def execBit2MemHl (s : State) : Result := .next (opBit 2 .hlMem s)

/-- `BIT 2,A` (CB 57), R271. -/
def execBit2A (s : State) : Result := .next (opBit 2 (.r .a) s)

/-- `BIT 3,B` (CB 58), R271. -/
def execBit3B (s : State) : Result := .next (opBit 3 (.r .b) s)

/-- `BIT 3,C` (CB 59), R271. -/
def execBit3C (s : State) : Result := .next (opBit 3 (.r .c) s)

/-- `BIT 3,D` (CB 5A), R271. -/
def execBit3D (s : State) : Result := .next (opBit 3 (.r .d) s)

/-- `BIT 3,E` (CB 5B), R271. -/
def execBit3E (s : State) : Result := .next (opBit 3 (.r .e) s)

/-- `BIT 3,H` (CB 5C), R271. -/
def execBit3H (s : State) : Result := .next (opBit 3 (.r .h) s)

/-- `BIT 3,L` (CB 5D), R271. -/
def execBit3L (s : State) : Result := .next (opBit 3 (.r .l) s)

/-- `BIT 3,(HL)` (CB 5E), R272. -/
def execBit3MemHl (s : State) : Result := .next (opBit 3 .hlMem s)

/-- `BIT 3,A` (CB 5F), R271. -/
def execBit3A (s : State) : Result := .next (opBit 3 (.r .a) s)

/-- `BIT 4,B` (CB 60), R271. -/
def execBit4B (s : State) : Result := .next (opBit 4 (.r .b) s)

/-- `BIT 4,C` (CB 61), R271. -/
def execBit4C (s : State) : Result := .next (opBit 4 (.r .c) s)

/-- `BIT 4,D` (CB 62), R271. -/
def execBit4D (s : State) : Result := .next (opBit 4 (.r .d) s)

/-- `BIT 4,E` (CB 63), R271. -/
def execBit4E (s : State) : Result := .next (opBit 4 (.r .e) s)

/-- `BIT 4,H` (CB 64), R271. -/
def execBit4H (s : State) : Result := .next (opBit 4 (.r .h) s)

/-- `BIT 4,L` (CB 65), R271. -/
def execBit4L (s : State) : Result := .next (opBit 4 (.r .l) s)

/-- `BIT 4,(HL)` (CB 66), R272. -/
def execBit4MemHl (s : State) : Result := .next (opBit 4 .hlMem s)

/-- `BIT 4,A` (CB 67), R271. -/
def execBit4A (s : State) : Result := .next (opBit 4 (.r .a) s)

/-- `BIT 5,B` (CB 68), R271. -/
def execBit5B (s : State) : Result := .next (opBit 5 (.r .b) s)

/-- `BIT 5,C` (CB 69), R271. -/
def execBit5C (s : State) : Result := .next (opBit 5 (.r .c) s)

/-- `BIT 5,D` (CB 6A), R271. -/
def execBit5D (s : State) : Result := .next (opBit 5 (.r .d) s)

/-- `BIT 5,E` (CB 6B), R271. -/
def execBit5E (s : State) : Result := .next (opBit 5 (.r .e) s)

/-- `BIT 5,H` (CB 6C), R271. -/
def execBit5H (s : State) : Result := .next (opBit 5 (.r .h) s)

/-- `BIT 5,L` (CB 6D), R271. -/
def execBit5L (s : State) : Result := .next (opBit 5 (.r .l) s)

/-- `BIT 5,(HL)` (CB 6E), R272. -/
def execBit5MemHl (s : State) : Result := .next (opBit 5 .hlMem s)

/-- `BIT 5,A` (CB 6F), R271. -/
def execBit5A (s : State) : Result := .next (opBit 5 (.r .a) s)

/-- `BIT 6,B` (CB 70), R271. -/
def execBit6B (s : State) : Result := .next (opBit 6 (.r .b) s)

/-- `BIT 6,C` (CB 71), R271. -/
def execBit6C (s : State) : Result := .next (opBit 6 (.r .c) s)

/-- `BIT 6,D` (CB 72), R271. -/
def execBit6D (s : State) : Result := .next (opBit 6 (.r .d) s)

/-- `BIT 6,E` (CB 73), R271. -/
def execBit6E (s : State) : Result := .next (opBit 6 (.r .e) s)

/-- `BIT 6,H` (CB 74), R271. -/
def execBit6H (s : State) : Result := .next (opBit 6 (.r .h) s)

/-- `BIT 6,L` (CB 75), R271. -/
def execBit6L (s : State) : Result := .next (opBit 6 (.r .l) s)

/-- `BIT 6,(HL)` (CB 76), R272. -/
def execBit6MemHl (s : State) : Result := .next (opBit 6 .hlMem s)

/-- `BIT 6,A` (CB 77), R271. -/
def execBit6A (s : State) : Result := .next (opBit 6 (.r .a) s)

/-- `BIT 7,B` (CB 78), R271. -/
def execBit7B (s : State) : Result := .next (opBit 7 (.r .b) s)

/-- `BIT 7,C` (CB 79), R271. -/
def execBit7C (s : State) : Result := .next (opBit 7 (.r .c) s)

/-- `BIT 7,D` (CB 7A), R271. -/
def execBit7D (s : State) : Result := .next (opBit 7 (.r .d) s)

/-- `BIT 7,E` (CB 7B), R271. -/
def execBit7E (s : State) : Result := .next (opBit 7 (.r .e) s)

/-- `BIT 7,H` (CB 7C), R271. -/
def execBit7H (s : State) : Result := .next (opBit 7 (.r .h) s)

/-- `BIT 7,L` (CB 7D), R271. -/
def execBit7L (s : State) : Result := .next (opBit 7 (.r .l) s)

/-- `BIT 7,(HL)` (CB 7E), R272. -/
def execBit7MemHl (s : State) : Result := .next (opBit 7 .hlMem s)

/-- `BIT 7,A` (CB 7F), R271. -/
def execBit7A (s : State) : Result := .next (opBit 7 (.r .a) s)

/-- `RES 0,B` (CB 80), R273. -/
def execRes0B (s : State) : Result := .next (opRes 0 (.r .b) s)

/-- `RES 0,C` (CB 81), R273. -/
def execRes0C (s : State) : Result := .next (opRes 0 (.r .c) s)

/-- `RES 0,D` (CB 82), R273. -/
def execRes0D (s : State) : Result := .next (opRes 0 (.r .d) s)

/-- `RES 0,E` (CB 83), R273. -/
def execRes0E (s : State) : Result := .next (opRes 0 (.r .e) s)

/-- `RES 0,H` (CB 84), R273. -/
def execRes0H (s : State) : Result := .next (opRes 0 (.r .h) s)

/-- `RES 0,L` (CB 85), R273. -/
def execRes0L (s : State) : Result := .next (opRes 0 (.r .l) s)

/-- `RES 0,(HL)` (CB 86), R274. -/
def execRes0MemHl (s : State) : Result := .next (opRes 0 .hlMem s)

/-- `RES 0,A` (CB 87), R273. -/
def execRes0A (s : State) : Result := .next (opRes 0 (.r .a) s)

/-- `RES 1,B` (CB 88), R273. -/
def execRes1B (s : State) : Result := .next (opRes 1 (.r .b) s)

/-- `RES 1,C` (CB 89), R273. -/
def execRes1C (s : State) : Result := .next (opRes 1 (.r .c) s)

/-- `RES 1,D` (CB 8A), R273. -/
def execRes1D (s : State) : Result := .next (opRes 1 (.r .d) s)

/-- `RES 1,E` (CB 8B), R273. -/
def execRes1E (s : State) : Result := .next (opRes 1 (.r .e) s)

/-- `RES 1,H` (CB 8C), R273. -/
def execRes1H (s : State) : Result := .next (opRes 1 (.r .h) s)

/-- `RES 1,L` (CB 8D), R273. -/
def execRes1L (s : State) : Result := .next (opRes 1 (.r .l) s)

/-- `RES 1,(HL)` (CB 8E), R274. -/
def execRes1MemHl (s : State) : Result := .next (opRes 1 .hlMem s)

/-- `RES 1,A` (CB 8F), R273. -/
def execRes1A (s : State) : Result := .next (opRes 1 (.r .a) s)

/-- `RES 2,B` (CB 90), R273. -/
def execRes2B (s : State) : Result := .next (opRes 2 (.r .b) s)

/-- `RES 2,C` (CB 91), R273. -/
def execRes2C (s : State) : Result := .next (opRes 2 (.r .c) s)

/-- `RES 2,D` (CB 92), R273. -/
def execRes2D (s : State) : Result := .next (opRes 2 (.r .d) s)

/-- `RES 2,E` (CB 93), R273. -/
def execRes2E (s : State) : Result := .next (opRes 2 (.r .e) s)

/-- `RES 2,H` (CB 94), R273. -/
def execRes2H (s : State) : Result := .next (opRes 2 (.r .h) s)

/-- `RES 2,L` (CB 95), R273. -/
def execRes2L (s : State) : Result := .next (opRes 2 (.r .l) s)

/-- `RES 2,(HL)` (CB 96), R274. -/
def execRes2MemHl (s : State) : Result := .next (opRes 2 .hlMem s)

/-- `RES 2,A` (CB 97), R273. -/
def execRes2A (s : State) : Result := .next (opRes 2 (.r .a) s)

/-- `RES 3,B` (CB 98), R273. -/
def execRes3B (s : State) : Result := .next (opRes 3 (.r .b) s)

/-- `RES 3,C` (CB 99), R273. -/
def execRes3C (s : State) : Result := .next (opRes 3 (.r .c) s)

/-- `RES 3,D` (CB 9A), R273. -/
def execRes3D (s : State) : Result := .next (opRes 3 (.r .d) s)

/-- `RES 3,E` (CB 9B), R273. -/
def execRes3E (s : State) : Result := .next (opRes 3 (.r .e) s)

/-- `RES 3,H` (CB 9C), R273. -/
def execRes3H (s : State) : Result := .next (opRes 3 (.r .h) s)

/-- `RES 3,L` (CB 9D), R273. -/
def execRes3L (s : State) : Result := .next (opRes 3 (.r .l) s)

/-- `RES 3,(HL)` (CB 9E), R274. -/
def execRes3MemHl (s : State) : Result := .next (opRes 3 .hlMem s)

/-- `RES 3,A` (CB 9F), R273. -/
def execRes3A (s : State) : Result := .next (opRes 3 (.r .a) s)

/-- `RES 4,B` (CB A0), R273. -/
def execRes4B (s : State) : Result := .next (opRes 4 (.r .b) s)

/-- `RES 4,C` (CB A1), R273. -/
def execRes4C (s : State) : Result := .next (opRes 4 (.r .c) s)

/-- `RES 4,D` (CB A2), R273. -/
def execRes4D (s : State) : Result := .next (opRes 4 (.r .d) s)

/-- `RES 4,E` (CB A3), R273. -/
def execRes4E (s : State) : Result := .next (opRes 4 (.r .e) s)

/-- `RES 4,H` (CB A4), R273. -/
def execRes4H (s : State) : Result := .next (opRes 4 (.r .h) s)

/-- `RES 4,L` (CB A5), R273. -/
def execRes4L (s : State) : Result := .next (opRes 4 (.r .l) s)

/-- `RES 4,(HL)` (CB A6), R274. -/
def execRes4MemHl (s : State) : Result := .next (opRes 4 .hlMem s)

/-- `RES 4,A` (CB A7), R273. -/
def execRes4A (s : State) : Result := .next (opRes 4 (.r .a) s)

/-- `RES 5,B` (CB A8), R273. -/
def execRes5B (s : State) : Result := .next (opRes 5 (.r .b) s)

/-- `RES 5,C` (CB A9), R273. -/
def execRes5C (s : State) : Result := .next (opRes 5 (.r .c) s)

/-- `RES 5,D` (CB AA), R273. -/
def execRes5D (s : State) : Result := .next (opRes 5 (.r .d) s)

/-- `RES 5,E` (CB AB), R273. -/
def execRes5E (s : State) : Result := .next (opRes 5 (.r .e) s)

/-- `RES 5,H` (CB AC), R273. -/
def execRes5H (s : State) : Result := .next (opRes 5 (.r .h) s)

/-- `RES 5,L` (CB AD), R273. -/
def execRes5L (s : State) : Result := .next (opRes 5 (.r .l) s)

/-- `RES 5,(HL)` (CB AE), R274. -/
def execRes5MemHl (s : State) : Result := .next (opRes 5 .hlMem s)

/-- `RES 5,A` (CB AF), R273. -/
def execRes5A (s : State) : Result := .next (opRes 5 (.r .a) s)

/-- `RES 6,B` (CB B0), R273. -/
def execRes6B (s : State) : Result := .next (opRes 6 (.r .b) s)

/-- `RES 6,C` (CB B1), R273. -/
def execRes6C (s : State) : Result := .next (opRes 6 (.r .c) s)

/-- `RES 6,D` (CB B2), R273. -/
def execRes6D (s : State) : Result := .next (opRes 6 (.r .d) s)

/-- `RES 6,E` (CB B3), R273. -/
def execRes6E (s : State) : Result := .next (opRes 6 (.r .e) s)

/-- `RES 6,H` (CB B4), R273. -/
def execRes6H (s : State) : Result := .next (opRes 6 (.r .h) s)

/-- `RES 6,L` (CB B5), R273. -/
def execRes6L (s : State) : Result := .next (opRes 6 (.r .l) s)

/-- `RES 6,(HL)` (CB B6), R274. -/
def execRes6MemHl (s : State) : Result := .next (opRes 6 .hlMem s)

/-- `RES 6,A` (CB B7), R273. -/
def execRes6A (s : State) : Result := .next (opRes 6 (.r .a) s)

/-- `RES 7,B` (CB B8), R273. -/
def execRes7B (s : State) : Result := .next (opRes 7 (.r .b) s)

/-- `RES 7,C` (CB B9), R273. -/
def execRes7C (s : State) : Result := .next (opRes 7 (.r .c) s)

/-- `RES 7,D` (CB BA), R273. -/
def execRes7D (s : State) : Result := .next (opRes 7 (.r .d) s)

/-- `RES 7,E` (CB BB), R273. -/
def execRes7E (s : State) : Result := .next (opRes 7 (.r .e) s)

/-- `RES 7,H` (CB BC), R273. -/
def execRes7H (s : State) : Result := .next (opRes 7 (.r .h) s)

/-- `RES 7,L` (CB BD), R273. -/
def execRes7L (s : State) : Result := .next (opRes 7 (.r .l) s)

/-- `RES 7,(HL)` (CB BE), R274. -/
def execRes7MemHl (s : State) : Result := .next (opRes 7 .hlMem s)

/-- `RES 7,A` (CB BF), R273. -/
def execRes7A (s : State) : Result := .next (opRes 7 (.r .a) s)

/-- `SET 0,B` (CB C0), R275. -/
def execSet0B (s : State) : Result := .next (opSet 0 (.r .b) s)

/-- `SET 0,C` (CB C1), R275. -/
def execSet0C (s : State) : Result := .next (opSet 0 (.r .c) s)

/-- `SET 0,D` (CB C2), R275. -/
def execSet0D (s : State) : Result := .next (opSet 0 (.r .d) s)

/-- `SET 0,E` (CB C3), R275. -/
def execSet0E (s : State) : Result := .next (opSet 0 (.r .e) s)

/-- `SET 0,H` (CB C4), R275. -/
def execSet0H (s : State) : Result := .next (opSet 0 (.r .h) s)

/-- `SET 0,L` (CB C5), R275. -/
def execSet0L (s : State) : Result := .next (opSet 0 (.r .l) s)

/-- `SET 0,(HL)` (CB C6), R276. -/
def execSet0MemHl (s : State) : Result := .next (opSet 0 .hlMem s)

/-- `SET 0,A` (CB C7), R275. -/
def execSet0A (s : State) : Result := .next (opSet 0 (.r .a) s)

/-- `SET 1,B` (CB C8), R275. -/
def execSet1B (s : State) : Result := .next (opSet 1 (.r .b) s)

/-- `SET 1,C` (CB C9), R275. -/
def execSet1C (s : State) : Result := .next (opSet 1 (.r .c) s)

/-- `SET 1,D` (CB CA), R275. -/
def execSet1D (s : State) : Result := .next (opSet 1 (.r .d) s)

/-- `SET 1,E` (CB CB), R275. -/
def execSet1E (s : State) : Result := .next (opSet 1 (.r .e) s)

/-- `SET 1,H` (CB CC), R275. -/
def execSet1H (s : State) : Result := .next (opSet 1 (.r .h) s)

/-- `SET 1,L` (CB CD), R275. -/
def execSet1L (s : State) : Result := .next (opSet 1 (.r .l) s)

/-- `SET 1,(HL)` (CB CE), R276. -/
def execSet1MemHl (s : State) : Result := .next (opSet 1 .hlMem s)

/-- `SET 1,A` (CB CF), R275. -/
def execSet1A (s : State) : Result := .next (opSet 1 (.r .a) s)

/-- `SET 2,B` (CB D0), R275. -/
def execSet2B (s : State) : Result := .next (opSet 2 (.r .b) s)

/-- `SET 2,C` (CB D1), R275. -/
def execSet2C (s : State) : Result := .next (opSet 2 (.r .c) s)

/-- `SET 2,D` (CB D2), R275. -/
def execSet2D (s : State) : Result := .next (opSet 2 (.r .d) s)

/-- `SET 2,E` (CB D3), R275. -/
def execSet2E (s : State) : Result := .next (opSet 2 (.r .e) s)

/-- `SET 2,H` (CB D4), R275. -/
def execSet2H (s : State) : Result := .next (opSet 2 (.r .h) s)

/-- `SET 2,L` (CB D5), R275. -/
def execSet2L (s : State) : Result := .next (opSet 2 (.r .l) s)

/-- `SET 2,(HL)` (CB D6), R276. -/
def execSet2MemHl (s : State) : Result := .next (opSet 2 .hlMem s)

/-- `SET 2,A` (CB D7), R275. -/
def execSet2A (s : State) : Result := .next (opSet 2 (.r .a) s)

/-- `SET 3,B` (CB D8), R275. -/
def execSet3B (s : State) : Result := .next (opSet 3 (.r .b) s)

/-- `SET 3,C` (CB D9), R275. -/
def execSet3C (s : State) : Result := .next (opSet 3 (.r .c) s)

/-- `SET 3,D` (CB DA), R275. -/
def execSet3D (s : State) : Result := .next (opSet 3 (.r .d) s)

/-- `SET 3,E` (CB DB), R275. -/
def execSet3E (s : State) : Result := .next (opSet 3 (.r .e) s)

/-- `SET 3,H` (CB DC), R275. -/
def execSet3H (s : State) : Result := .next (opSet 3 (.r .h) s)

/-- `SET 3,L` (CB DD), R275. -/
def execSet3L (s : State) : Result := .next (opSet 3 (.r .l) s)

/-- `SET 3,(HL)` (CB DE), R276. -/
def execSet3MemHl (s : State) : Result := .next (opSet 3 .hlMem s)

/-- `SET 3,A` (CB DF), R275. -/
def execSet3A (s : State) : Result := .next (opSet 3 (.r .a) s)

/-- `SET 4,B` (CB E0), R275. -/
def execSet4B (s : State) : Result := .next (opSet 4 (.r .b) s)

/-- `SET 4,C` (CB E1), R275. -/
def execSet4C (s : State) : Result := .next (opSet 4 (.r .c) s)

/-- `SET 4,D` (CB E2), R275. -/
def execSet4D (s : State) : Result := .next (opSet 4 (.r .d) s)

/-- `SET 4,E` (CB E3), R275. -/
def execSet4E (s : State) : Result := .next (opSet 4 (.r .e) s)

/-- `SET 4,H` (CB E4), R275. -/
def execSet4H (s : State) : Result := .next (opSet 4 (.r .h) s)

/-- `SET 4,L` (CB E5), R275. -/
def execSet4L (s : State) : Result := .next (opSet 4 (.r .l) s)

/-- `SET 4,(HL)` (CB E6), R276. -/
def execSet4MemHl (s : State) : Result := .next (opSet 4 .hlMem s)

/-- `SET 4,A` (CB E7), R275. -/
def execSet4A (s : State) : Result := .next (opSet 4 (.r .a) s)

/-- `SET 5,B` (CB E8), R275. -/
def execSet5B (s : State) : Result := .next (opSet 5 (.r .b) s)

/-- `SET 5,C` (CB E9), R275. -/
def execSet5C (s : State) : Result := .next (opSet 5 (.r .c) s)

/-- `SET 5,D` (CB EA), R275. -/
def execSet5D (s : State) : Result := .next (opSet 5 (.r .d) s)

/-- `SET 5,E` (CB EB), R275. -/
def execSet5E (s : State) : Result := .next (opSet 5 (.r .e) s)

/-- `SET 5,H` (CB EC), R275. -/
def execSet5H (s : State) : Result := .next (opSet 5 (.r .h) s)

/-- `SET 5,L` (CB ED), R275. -/
def execSet5L (s : State) : Result := .next (opSet 5 (.r .l) s)

/-- `SET 5,(HL)` (CB EE), R276. -/
def execSet5MemHl (s : State) : Result := .next (opSet 5 .hlMem s)

/-- `SET 5,A` (CB EF), R275. -/
def execSet5A (s : State) : Result := .next (opSet 5 (.r .a) s)

/-- `SET 6,B` (CB F0), R275. -/
def execSet6B (s : State) : Result := .next (opSet 6 (.r .b) s)

/-- `SET 6,C` (CB F1), R275. -/
def execSet6C (s : State) : Result := .next (opSet 6 (.r .c) s)

/-- `SET 6,D` (CB F2), R275. -/
def execSet6D (s : State) : Result := .next (opSet 6 (.r .d) s)

/-- `SET 6,E` (CB F3), R275. -/
def execSet6E (s : State) : Result := .next (opSet 6 (.r .e) s)

/-- `SET 6,H` (CB F4), R275. -/
def execSet6H (s : State) : Result := .next (opSet 6 (.r .h) s)

/-- `SET 6,L` (CB F5), R275. -/
def execSet6L (s : State) : Result := .next (opSet 6 (.r .l) s)

/-- `SET 6,(HL)` (CB F6), R276. -/
def execSet6MemHl (s : State) : Result := .next (opSet 6 .hlMem s)

/-- `SET 6,A` (CB F7), R275. -/
def execSet6A (s : State) : Result := .next (opSet 6 (.r .a) s)

/-- `SET 7,B` (CB F8), R275. -/
def execSet7B (s : State) : Result := .next (opSet 7 (.r .b) s)

/-- `SET 7,C` (CB F9), R275. -/
def execSet7C (s : State) : Result := .next (opSet 7 (.r .c) s)

/-- `SET 7,D` (CB FA), R275. -/
def execSet7D (s : State) : Result := .next (opSet 7 (.r .d) s)

/-- `SET 7,E` (CB FB), R275. -/
def execSet7E (s : State) : Result := .next (opSet 7 (.r .e) s)

/-- `SET 7,H` (CB FC), R275. -/
def execSet7H (s : State) : Result := .next (opSet 7 (.r .h) s)

/-- `SET 7,L` (CB FD), R275. -/
def execSet7L (s : State) : Result := .next (opSet 7 (.r .l) s)

/-- `SET 7,(HL)` (CB FE), R276. -/
def execSet7MemHl (s : State) : Result := .next (opSet 7 .hlMem s)

/-- `SET 7,A` (CB FF), R275. -/
def execSet7A (s : State) : Result := .next (opSet 7 (.r .a) s)

end Sys2Proof.Machine
end

