-- ==== Sys2Proof/Machine/System.lean ====
section
/-! DEFINITION. System instructions, the undefined opcodes and the prefix (spec/46_system.md R300 to R306). -/

namespace Sys2Proof.Machine

/-! ## Shared operations -/

/-- An undefined opcode (R305): no effect, or no further step under UNDEF_POLICY = stuck. -/
def opUndefined (s : State) : Result :=
  match s.params.undefPolicy with
  | .nop => .next s
  | .stuck => .fault .undefinedOpcode

/-- The rotate or shift of a field `y` (R137). -/
def rotOpOfIndex (y : BitVec 3) : RotOp :=
  match y.toNat with
  | 0 => .rlc
  | 1 => .rrc
  | 2 => .rl
  | 3 => .rr
  | 4 => .sla
  | 5 => .sra
  | 6 => .swap
  | _ => .srl

/-- The CB instruction of a second byte, by its fields `x`, `y`, `z` (R137, R143). -/
def opCb (op2 : Byte) (s : State) : State :=
  let y := op2.extractLsb' 3 3
  let z := loc8OfIndex (op2.extractLsb' 0 3)
  match (op2.extractLsb' 6 2).toNat with
  | 0 => opRot (rotOpOfIndex y) z s
  | 1 => opBit y.toFin z s
  | 2 => opRes y.toFin z s
  | _ => opSet y.toFin z s

/-- The prefix `0xCB` (R306): the second byte is fetched, `PC` passes it, and the CB instruction runs. -/
def opCbDispatch (s : State) : State :=
  let (op2, t) := s.fetch8
  opCb op2 t

/-! ## Meanings -/

/-- `NOP` (00), R300. -/
def execNop (s : State) : Result := .next s

/-- `STOP` (10), R304. -/
def execStop (_n : Byte) (s : State) : Result := .next s

/-- `HALT` (76), R301. -/
def execHalt (s : State) : Result := .next (s.setHalt true)

/-- `PREFIX CB` (CB), R306. -/
def execPrefixCb (s : State) : Result := .next (opCbDispatch s)

/-- `UNDEF_D3` (D3), R305. -/
def execUndefD3 (s : State) : Result := opUndefined s

/-- `UNDEF_DB` (DB), R305. -/
def execUndefDB (s : State) : Result := opUndefined s

/-- `UNDEF_DD` (DD), R305. -/
def execUndefDD (s : State) : Result := opUndefined s

/-- `UNDEF_E3` (E3), R305. -/
def execUndefE3 (s : State) : Result := opUndefined s

/-- `UNDEF_E4` (E4), R305. -/
def execUndefE4 (s : State) : Result := opUndefined s

/-- `UNDEF_EB` (EB), R305. -/
def execUndefEB (s : State) : Result := opUndefined s

/-- `UNDEF_EC` (EC), R305. -/
def execUndefEC (s : State) : Result := opUndefined s

/-- `UNDEF_ED` (ED), R305. -/
def execUndefED (s : State) : Result := opUndefined s

/-- `DI` (F3), R302. -/
def execDi (s : State) : Result := .next (s.setIme false)

/-- `UNDEF_F4` (F4), R305. -/
def execUndefF4 (s : State) : Result := opUndefined s

/-- `EI` (FB), R303. -/
def execEi (s : State) : Result := .next (s.setIme true)

/-- `UNDEF_FC` (FC), R305. -/
def execUndefFC (s : State) : Result := opUndefined s

/-- `UNDEF_FD` (FD), R305. -/
def execUndefFD (s : State) : Result := opUndefined s

end Sys2Proof.Machine
end

