-- ==== Sys2Proof/Machine/Peripherals.lean ====
section
/-! DEFINITION. The timer and divider (spec/60_exceptions.md R330 to R335) and the host's joypad transition (R372). -/

namespace Sys2Proof.Machine

/-! ## Timer -/

/-- `Period(TAC[1:0])` (R330, R34). -/
def timerPeriod (tac : BitVec 3) : Nat :=
  match (tac.extractLsb' 0 2).toNat with
  | 0 => 1024
  | 1 => 16
  | 2 => 64
  | _ => 256

/-- `TimaOverflow` (R334): reload, request, and wake the CPU whatever `IE` is. -/
def State.timaOverflow (s : State) : State :=
  (State.requestIrq { s with timer := { s.timer with tima := s.timer.tma } } .timer).setHalt false

/-- `TimaIncrement` (R333). -/
def State.timaIncrement (s : State) : State :=
  if s.timer.tima = 0xFF then s.timaOverflow
  else { s with timer := { s.timer with tima := s.timer.tima + 1 } }

/-- `n` increments of `TIMA`, one after the other. -/
def State.timaIncrements : Nat → State → State
  | 0, s => s
  | n + 1, s => State.timaIncrements n s.timaIncrement

/-- The divider's part of `TimerAdvance` (R331): `DivTimer` grows by `d` and is drained by multiples of 256 into `DIV`. -/
def State.divAdvance (d : Nat) (s : State) : State :=
  let acc := s.timer.divTimer + d
  { s with timer := { s.timer with divTimer := acc % 256, div := s.timer.div + BitVec.ofNat 8 (acc / 256) } }

/-- The counter's part of `TimerAdvance` (R331, R332): `Timer` grows by `d` in any case, and is drained by multiples
of the period, one `TimaIncrement` each, only while `TAC` bit 2 is set. -/
def State.timaAdvance (d : Nat) (s : State) : State :=
  let acc := s.timer.timer + d
  if s.timer.tac.getLsbD 2 then
    let p := timerPeriod s.timer.tac
    State.timaIncrements (acc / p) { s with timer := { s.timer with timer := acc % p } }
  else { s with timer := { s.timer with timer := acc } }

/-- `TimerAdvance(d)` (R331). -/
def State.timerAdvance (d : Nat) (s : State) : State := State.timaAdvance d (State.divAdvance d s)

/-! ## Joypad -/

/-- Some key is pressed in `new` and released in `old` (R372). -/
def Keys.newPress (old new : Keys) : Bool :=
  (new.up && !old.up) || (new.down && !old.down) || (new.left && !old.left) || (new.right && !old.right) ||
  (new.a && !old.a) || (new.b && !old.b) || (new.start && !old.start) || (new.select && !old.select)

/-- `JoypadApply(new)` (R372): the host's transition, between two steps. -/
def joypadApply (new : Keys) (s : State) : State :=
  let t := { s with joypad := { s.joypad with prev := s.joypad.cur, cur := new } }
  if Keys.newPress s.joypad.cur new then t.requestIrq .joypad else t

end Sys2Proof.Machine
end

