-- ==== Sys2Proof/Machine/Raster.lean ====
section
/-! DEFINITION. The rasteriser (spec/60_exceptions.md R353 to R364): one row of background and sprites. It reads VRAM
and OAM directly and not through the bus (R353). -/

namespace Sys2Proof.Machine

/-- `V(a)` (R353): the VRAM byte at bus address `a` of 8000 to 9FFF. -/
def Ppu.v (p : Ppu) (a : Nat) : Byte := Memory.read p.vram (a - 0x8000)

/-- `Pal(reg, k)` (R42): the two bits of entry `k`. -/
def pal (reg : Byte) (k : Nat) : Byte := (reg >>> (2 * k)) &&& 3

/-- The colour index of pixel `p` (0 leftmost) of a tile row's two bytes (R47, R356, R362). -/
def colourIndex (b0 b1 : Byte) (p : Nat) : Nat := bit1 b0 + 2 * bit1 b1
where
  /-- Bit `7 - p` of a byte as a number. -/
  bit1 (b : Byte) : Nat := if b.getLsbD (7 - p) then 1 else 0

/-- `FB[row*160 + x] <- v`. -/
def Ppu.setFb (p : Ppu) (row x : Nat) (v : Byte) : Ppu :=
  { p with fb := Memory.write p.fb (row * 160 + x) v }

/-- `PRI[x]`, for `x` below 160. -/
def Ppu.slot (p : Ppu) (x : Nat) : PriSlot := (p.pri[x]?).getD .undrawn

/-- `PRI[x] <- v`, for `x` below 160. -/
def Ppu.setSlot (p : Ppu) (x : Nat) (v : PriSlot) : Ppu := { p with pri := p.pri.setIfInBounds x v }

/-! ## Background -/

/-- The tile map's base (R354). -/
def Ppu.mapBase (p : Ppu) : Nat := if p.lcdc.getLsbD 3 then 0x9C00 else 0x9800

/-- `TileAddr(id)` (R355). -/
def Ppu.tileAddr (p : Ppu) (id : Byte) : Nat :=
  if p.lcdc.getLsbD 4 then 0x8000 + 16 * id.toNat else (0x9000 + 16 * id.toInt).toNat

/-- The background's colour index at `x` of a row (R356). -/
def Ppu.bgColour (p : Ppu) (row x : Nat) : Nat :=
  let px := (x + p.scx.toNat) % 256
  let py := (row + p.scy.toNat) % 256
  let id := p.v (p.mapBase + py / 8 * 32 + px / 8)
  let a := p.tileAddr id + 2 * (py % 8)
  colourIndex (p.v a) (p.v (a + 1)) (px % 8)

/-- One pixel of the background pass (R356, R357). -/
def Ppu.bgPixel (row : Nat) (p : Ppu) (x : Nat) : Ppu :=
  let ci := p.bgColour row x
  let q := p.setFb row x (pal p.bgp ci)
  if ci = 0 then q else q.setSlot x .background

/-- The background pass (R356): x from 0 to 159. -/
def Ppu.bgPass (row : Nat) (p : Ppu) : Ppu := (List.range 160).foldl (Ppu.bgPixel row) p

/-! ## Sprites -/

/-- An OAM entry (R48). -/
structure Sprite where
  y : Byte
  x : Byte
  tile : Byte
  flags : Byte
deriving DecidableEq, Repr

/-- OAM entry `n`, 0 to 39 (R48). -/
def Ppu.sprite (p : Ppu) (n : Nat) : Sprite :=
  { y := Memory.read p.oam (4 * n), x := Memory.read p.oam (4 * n + 1), tile := Memory.read p.oam (4 * n + 2),
    flags := Memory.read p.oam (4 * n + 3) }

/-- The sprite height (R358). -/
def Ppu.spriteHeight (p : Ppu) : Nat := if p.lcdc.getLsbD 2 then 16 else 8

/-- `screen_y` (R359). -/
def Sprite.screenY (o : Sprite) : Int := (o.y.toNat : Int) - 16

/-- Admission (R359): `screen_y ≤ row < screen_y + height`. -/
def Sprite.admitted (o : Sprite) (row height : Nat) : Bool :=
  o.screenY ≤ row && (row : Int) < o.screenY + height

/-- Put a sprite before the first one of a larger X, after those of the same X. -/
def insertByX (o : Sprite) : List Sprite → List Sprite
  | [] => [o]
  | q :: qs => if o.x.toNat < q.x.toNat then o :: q :: qs else q :: insertByX o qs

/-- The stable sort by X, ascending (R360). -/
def sortByX (l : List Sprite) : List Sprite := l.foldl (fun acc o => insertByX o acc) []

/-- The sprites drawn on a row, in the order they are drawn (R359, R360). -/
def Ppu.selected (p : Ppu) (row : Nat) : List Sprite :=
  (sortByX (((List.range 40).map p.sprite).filter (fun o => o.admitted row p.spriteHeight))).take 10

/-- The address of a selected sprite's tile row (R361). -/
def Ppu.spriteRowAddr (p : Ppu) (row : Nat) (o : Sprite) : Nat :=
  let line := ((row : Int) - o.screenY).toNat
  let yflip := o.flags.getLsbD 6
  let tile : Byte :=
    if p.spriteHeight = 16 then
      if (decide (line < 8)) != yflip then o.tile &&& 0xFE else o.tile ||| 0x01
    else o.tile
  let tr := if yflip then 7 - line % 8 else line % 8
  0x8000 + 16 * tile.toNat + 2 * tr

/-- `c[i]` (R362): the colour index of the `i`th pixel of a selected sprite, reversed with X-flip. -/
def Ppu.spriteColour (p : Ppu) (row : Nat) (o : Sprite) (i : Nat) : Nat :=
  let a := p.spriteRowAddr row o
  colourIndex (p.v a) (p.v (a + 1)) (if o.flags.getLsbD 5 then 7 - i else i)

/-- One pixel of a selected sprite (R363). -/
def Ppu.spritePixel (row : Nat) (o : Sprite) (p : Ppu) (i : Nat) : Ppu :=
  let sx : Int := (o.x.toNat : Int) - 8 + i
  let ci := p.spriteColour row o i
  if sx < 0 || sx ≥ 160 then p
  else if ci = 0 then p
  else if o.flags.getLsbD 7 && p.slot sx.toNat == .background then p
  else if p.slot sx.toNat == .sprite then p
  else
    (p.setFb row sx.toNat (pal (if o.flags.getLsbD 4 then p.obp1 else p.obp0) ci)).setSlot sx.toNat .sprite

/-- A selected sprite: its eight pixels, left to right (R363). -/
def Ppu.drawSprite (row : Nat) (p : Ppu) (o : Sprite) : Ppu := (List.range 8).foldl (Ppu.spritePixel row o) p

/-- The sprite pass (R361): the selected sprites from lowest X to highest. -/
def Ppu.spritePass (row : Nat) (p : Ppu) : Ppu := (p.selected row).foldl (Ppu.drawSprite row) p

/-- `RasteriseRow(row)` (R353): reset the priority buffer, then background, then sprites. -/
def Ppu.rasteriseRow (row : Nat) (p : Ppu) : Ppu :=
  Ppu.spritePass row (Ppu.bgPass row { p with pri := Vector.replicate 160 .undrawn })

end Sys2Proof.Machine
end

