-- ==== Sys2Proof/Machine/Video.lean ====
section
/-! DEFINITION. The picture unit's state machine (spec/60_exceptions.md R340 to R351). -/

namespace Sys2Proof.Machine

/-- The PPU's modes with their numbers in STAT bits 1 and 0 (R342). -/
inductive PpuMode where
  | hblank | vblank | oamScan | transfer
deriving DecidableEq, Repr

/-- The number of a mode (R342). -/
def PpuMode.code : PpuMode → BitVec 2
  | .hblank => 0
  | .vblank => 1
  | .oamScan => 2
  | .transfer => 3

/-- `mode`: STAT bits 1 and 0 (R342). -/
def Ppu.mode (p : Ppu) : BitVec 2 := p.stat.extractLsb' 0 2

/-- `mode <- m`. -/
def State.setMode (s : State) (m : PpuMode) : State :=
  { s with ppu := { s.ppu with stat := (s.ppu.stat &&& 0x7C) ||| m.code.setWidth 7 } }

/-- STAT bit 2 `<- b` (R349). -/
def State.setLycFlag (s : State) (b : Bool) : State :=
  { s with ppu := { s.ppu with stat := (s.ppu.stat &&& 0x7B) ||| ((BitVec.ofBool b).setWidth 7 <<< 2) } }

/-- Request interrupt 1 if STAT bit `n` is set (R345, R347). -/
def State.requestStatIf (s : State) (n : Nat) : State :=
  if s.ppu.stat.getLsbD n then s.requestIrq .stat else s

/-- The mode a row and phase call for (R344 to R347). -/
def modeAt (row phase : Nat) : PpuMode :=
  if row ≥ 144 then .vblank
  else if phase < 80 then .oamScan
  else if phase < 252 then .transfer
  else .hblank

/-- What entering a mode does besides setting it (R344 to R347). -/
def State.enterMode (s : State) (m : PpuMode) (row : Nat) : State :=
  match m with
  | .vblank => s.requestIrq .vblank
  | .oamScan => s.requestStatIf 5
  | .transfer => s
  | .hblank => State.requestStatIf { s with ppu := s.ppu.rasteriseRow row } 3

/-- The mode chain of `PpuRun` (R343): nothing unless the mode changes. -/
def State.modeChain (s : State) (row phase : Nat) : State :=
  let m := modeAt row phase
  if s.ppu.mode = m.code then s else (s.setMode m).enterMode m row

/-- The coincidence test (R349), with `row` after the wrap; under LYC_IRQ_EDGE the request is made only where STAT
bit 2 goes from 0 to 1. -/
def State.coincidence (s : State) (row : Nat) : State :=
  if row = s.ppu.lyc.toNat then
    let t := s.setLycFlag true
    if s.ppu.stat.getLsbD 6 && !(s.params.lycIrqEdge && s.ppu.stat.getLsbD 2) then t.requestIrq .stat else t
  else s.setLycFlag false

/-- `PpuRun(d)` (R343), the frame-ready bit left in `frameReady`. -/
def State.ppuRun (d : Nat) (s : State) : State :=
  if !s.ppu.lcdc.getLsbD 7 then { s with frameReady := false }
  else
    let cycles := s.ppu.cycles + d
    let row := cycles / Config.rowCycles
    let phase := cycles % Config.rowCycles
    let frame := decide (row ≥ 144) && s.ppu.mode != PpuMode.vblank.code
    let t := State.modeChain { s with ppu := { s.ppu with cycles := cycles }, frameReady := frame } row phase
    let wrapped := row > 153
    let row := if wrapped then 0 else row
    let t := { t with ppu := { t.ppu with cycles := if wrapped then 0 else cycles, ly := BitVec.ofNat 8 row } }
    t.coincidence row

end Sys2Proof.Machine
end

