-- ==== Sys2Proof/Machine/CpuStep.lean ====
section
/-! DEFINITION. `CpuStep` and `SystemStep` (spec/60_exceptions.md R310, R312), and placing an instruction where the next
step fetches. -/

namespace Sys2Proof.Machine

/-- The three bytes at `PC`, the most an instruction has (R130); reads have no side effect (R72). -/
def State.fetchWindow (s : State) : List Byte :=
  [s.busRead s.cpu.pc, s.busRead (s.cpu.pc + 1), s.busRead (s.cpu.pc + 2)]

/-- Fetch, decode and execute one instruction (R24, R312): the instruction runs with `PC` past all of its bytes. -/
def State.runInstr (s : State) : Host.Outcome (State × Nat) Fault Refusal :=
  match decode s.fetchWindow with
  | .ok (i, _) =>
    match exec i (s.setPc (s.cpu.pc + BitVec.ofNat 16 i.length)) with
    | .next t => .next (t, costOf i s)
    | .fault r => .fault r
    | .refused r => .refused r
  | .error _ => .fault .truncatedFetch

/-- The wake check at the end of every CPU step (R318). -/
def State.wakeCheck (s : State) : State := if s.pending = 0 then s else s.setHalt false

/-- `CpuStep` (R312) with the cost it returns: interrupt service, halted idle, or one instruction. -/
def State.cpuStep (s : State) : Host.Outcome (State × Nat) Fault Refusal :=
  match s.serviceable with
  | some i =>
    let t := s.serviceInterrupt i
    let t := if s.params.irqAdvancesTimer then t.timerAdvance 20 else t
    .next (t.wakeCheck, 20)
  | none =>
    if s.cpu.halt then .next ((s.timerAdvance 4).wakeCheck, 4)
    else
      match s.runInstr with
      | .next (t, c) => .next ((t.timerAdvance c).wakeCheck, c)
      | .fault r => .fault r
      | .refused r => .refused r

/-- `SystemStep` (R310): one CPU step, then the PPU by the same cost. -/
def State.systemStep (s : State) : Host.Outcome State Fault Refusal :=
  match s.cpuStep with
  | .next (t, c) => .next (t.ppuRun c)
  | .fault r => .fault r
  | .refused r => .refused r

/-! ## Placing an instruction -/

/-- An address of ROM or of plain RAM, whose byte can be placed and is then read back by a fetch. -/
def State.placeable (s : State) (addr : Word) : Bool :=
  let a := addr.toNat
  if a ≤ 0x9FFF then true
  else if a ≤ 0xBFFF then (s.cart.ramOffset a).isSome
  else a ≤ 0xFE9F || (0xFF80 ≤ a && a ≤ 0xFFFE)

/-- Put a byte where a fetch from `addr` reads it, as a loader outside the machine would: ROM bytes too. -/
def State.place (s : State) (addr : Word) (v : Byte) : State :=
  if addr.toNat ≤ 0x7FFF then
    { s with cart := { s.cart with rom := Memory.write s.cart.rom (s.cart.romOffset addr.toNat) v } }
  else s.busWrite addr v

/-- Put bytes at ascending addresses. -/
def State.placeAll (s : State) (addr : Word) : List Byte → State
  | [] => s
  | v :: vs => State.placeAll (s.place addr v) (addr + 1) vs

/-- `s` ready to fetch and run these three bytes at its next step: `PC` stays where it is if the bytes can be placed
there and moves to work RAM otherwise; the CPU is not halted; a request that would be serviced first is held off by
clearing `ime`, and only then. -/
def State.withFetchBytes (s : State) (bytes : List Byte) : State :=
  let pc := s.cpu.pc
  let t := if s.placeable pc && s.placeable (pc + 1) && s.placeable (pc + 2) then s else s.setPc 0xC000
  let t := t.setHalt false
  let t := if t.serviceable = none then t else t.setIme false
  t.placeAll t.cpu.pc bytes

end Sys2Proof.Machine
end

