-- ==== Sys2Proof/Machine/Step.lean ====
section
/-! DEFINITION. The step of the machine: `SystemStep` (spec/60_exceptions.md R310). -/

namespace Sys2Proof.Machine

/-- One step of the machine (R310). -/
def step (s : State) : Host.Outcome State Fault Refusal := s.systemStep

/-- `s` with the instruction of a word of the opcode table stored where `step` fetches its next instruction
(notes/assumptions/1 and 19). -/
def State.withFetchWord (s : State) (nbits w : Nat) : State := s.withFetchBytes (tableBytes nbits w)

end Sys2Proof.Machine
end

