-- ==== Sys2Proof/Safety.lean ====
section
/-! DEFINITION. The terms claims use: what a safe state is, what a step may leave unchanged, which addresses one bus
write can change, which bus writes an instruction makes, and the numbers the encodings give to operands. -/

namespace Sys2Proof

/-! ## Numbers of operands in an encoding -/

/-- The number of a register in a 3-bit field (spec/30_encoding.md R133). -/
def Reg8.code : Reg8 → Nat
  | .b => 0
  | .c => 1
  | .d => 2
  | .e => 3
  | .h => 4
  | .l => 5
  | .a => 7

/-- The number of a pair in the field `p` (R135). -/
def Pair.code : Pair → Nat
  | .bc => 0
  | .de => 1
  | .hl => 2
  | .sp => 3

/-- The number of a pair in the field `p` of `PUSH` and `POP` (R135). -/
def StackPair.code : StackPair → Nat
  | .bc => 0
  | .de => 1
  | .hl => 2
  | .af => 3

/-- The number of a condition (R136). -/
def Cond.code : Cond → Nat
  | .nz => 0
  | .z => 1
  | .nc => 2
  | .c => 3

/-- The number of an operation on A (R137). -/
def AluOp.code : AluOp → Nat
  | .add => 0
  | .adc => 1
  | .sub => 2
  | .sbc => 3
  | .and => 4
  | .xor => 5
  | .or => 6
  | .cp => 7

/-- The number of a rotate or shift (R137). -/
def RotOp.code : RotOp → Nat
  | .rlc => 0
  | .rrc => 1
  | .rl => 2
  | .rr => 3
  | .sla => 4
  | .sra => 5
  | .swap => 6
  | .srl => 7

/-- A byte of an encoding from its fields `x`, `y`, `z` (R132). -/
def xyz (x y z : Nat) : Byte := BitVec.ofNat 8 (64 * x + 8 * y + z)

namespace Machine

/-! ## Costs -/

/-- The instruction costs `n` cycles by the default table. -/
def HasCost (i : Instr) (n : Nat) : Prop := ∀ s : State, s.params.costs = [] → costOf i s = n

/-- The instruction costs `n` cycles where its condition holds and `m` where not, by the default table. -/
def HasCosts (i : Instr) (cc : Cond) (n m : Nat) : Prop :=
  ∀ s : State, s.params.costs = [] → costOf i s = if s.cpu.f.holds cc then n else m

/-! ## Safe states -/

/-- A canonical memory of `size` bytes. -/
def Memory.sized (size : Nat) (m : Memory) : Bool := Memory.wf m && Memory.below size m

/-- The bank registers are legal: `rom_bank_lo` is never 0 (20_memory.md R106, 10_state.md R54). -/
def Controller.wf : Controller → Bool
  | .mbc0 => true
  | .mbc1 r => r.romBankLo != 0

/-- The cartridge is one the machine accepts (20_memory.md R100, R101, R106). -/
def Cartridge.wf (c : Cartridge) : Bool :=
  decide (Config.minRomLen ≤ c.romLen) && [0, 2048, 8192, 32768].contains c.ramLen &&
  Memory.sized c.romLen c.rom && Memory.sized c.ramLen c.xram && c.controller.wf

/-- The PPU's state is one it can be in: memories canonical, shades 0 to 3 (10_state.md R50), the counter inside the
frame (R53), LY the counter's row (60_exceptions.md R348) and the mode the one the counter calls for; only where the
counter is 0 (at reset and right after the frame wraps) may the mode still be HBlank or VBlank. -/
def Ppu.wf (p : Ppu) : Bool :=
  Memory.sized Config.vramSize p.vram && Memory.sized Config.oamSize p.oam &&
  Memory.sized (Config.screenWidth * Config.screenHeight) p.fb && p.fb.all (fun c => c.2.toNat < 4) &&
  decide (p.cycles < Config.frameCycles) && p.ly.toNat == p.cycles / Config.rowCycles &&
  (p.mode == (modeAt (p.cycles / Config.rowCycles) (p.cycles % Config.rowCycles)).code ||
    (p.cycles == 0 && (p.mode == PpuMode.hblank.code || p.mode == PpuMode.vblank.code)))

/-- A safe state: every part of it is one the machine can be in. -/
def State.wf (s : State) : Bool :=
  s.cart.wf && s.ppu.wf && Memory.sized Config.wramSize s.wram && Memory.sized Config.hramSize s.hram &&
  decide (s.timer.divTimer < 256)

/-! ## Frames -/

/-- Everything outside the CPU is as before, and every byte of the address space reads as before. -/
def SameOutsideCpu (s t : State) : Prop :=
  t = { s with cpu := t.cpu } ∧ ∀ x : Word, t.busRead x = s.busRead x

/-- Of the CPU, no 8-bit register but those of `qs` has changed, nor `SP`, `PC`, `halt`, `ime`. Nothing is said of the
flags. -/
def CpuFrame (qs : List Reg8) (s t : State) : Prop :=
  (∀ r : Reg8, r ∉ qs → t.reg r = s.reg r) ∧ t.cpu.sp = s.cpu.sp ∧ t.cpu.pc = s.cpu.pc ∧
  t.cpu.halt = s.cpu.halt ∧ t.cpu.ime = s.cpu.ime

/-- As `CpuFrame`, and nothing outside the CPU has changed. -/
def RegFrame (qs : List Reg8) (s t : State) : Prop := SameOutsideCpu s t ∧ CpuFrame qs s t

/-- The 8-bit registers that make up a pair; `SP` is none of them. -/
def Pair.regs : Pair → List Reg8
  | .bc => [.b, .c]
  | .de => [.d, .e]
  | .hl => [.h, .l]
  | .sp => []

/-- The 8-bit registers that make up a stack pair, beside `F`. -/
def StackPair.regs : StackPair → List Reg8
  | .bc => [.b, .c]
  | .de => [.d, .e]
  | .hl => [.h, .l]
  | .af => [.a]

/-- Nothing but the pair `p` and the flags has changed. -/
def PairFrame (p : Pair) (s t : State) : Prop :=
  SameOutsideCpu s t ∧ (∀ r : Reg8, r ∉ Pair.regs p → t.reg r = s.reg r) ∧ (p ≠ .sp → t.cpu.sp = s.cpu.sp) ∧
  t.cpu.pc = s.cpu.pc ∧ t.cpu.halt = s.cpu.halt ∧ t.cpu.ime = s.cpu.ime

/-- The addresses that may read differently after one bus write to `a` (20_memory.md R73, R80, R96, R105 to R111): the
address itself, its echo, the RAM bytes the controller maps to the same place, the ranges a control write switches. -/
def State.touches (s : State) (a x : Word) : Prop :=
  let a := a.toNat
  let x := x.toNat
  let romWindow := 0x4000 ≤ x ∧ x ≤ 0x7FFF
  let ramWindow := 0xA000 ≤ x ∧ x ≤ 0xBFFF
  if a ≤ 0x7FFF then
    s.cart.controller ≠ .mbc0 ∧
      (if a ≤ 0x1FFF then ramWindow else if a ≤ 0x3FFF then romWindow else romWindow ∨ ramWindow)
  else if a ≤ 0x9FFF then x = a
  else if a ≤ 0xBFFF then ramWindow ∧ s.cart.ramOffset a ≠ none ∧ s.cart.ramOffset x = s.cart.ramOffset a
  else if a ≤ 0xDFFF then x = a ∨ (a ≤ 0xDDFF ∧ x = a + 0x2000)
  else if a ≤ 0xFDFF then x = a ∨ x = a - 0x2000
  else if a ≤ 0xFE9F then x = a
  else if a ≤ 0xFEFF then False
  else if a = 0xFF46 then 0xFE00 ≤ x ∧ x ≤ 0xFE9F
  else x = a

/-- Outside the CPU `t` is `s` after one bus write of `v` to `a`: every address the write cannot reach reads as before. -/
def StoresOne (a : Word) (v : Byte) (s t : State) : Prop :=
  t = { s.busWrite a v with cpu := t.cpu } ∧ ∀ x : Word, ¬ s.touches a x → t.busRead x = s.busRead x

/-- `t` is `s` after a bus write of `v` to `a` and then one of `w` to `b`, but for the CPU: every address neither
write can reach reads as before. -/
def StoresTwo (a : Word) (v : Byte) (b : Word) (w : Byte) (s t : State) : Prop :=
  t = { (s.busWrite a v).busWrite b w with cpu := t.cpu } ∧
  ∀ x : Word, ¬ s.touches a x → ¬ (s.busWrite a v).touches b x → t.busRead x = s.busRead x

/-- The two bytes of `v` are pushed (41_load16.md R190): the high byte at `SP - 1`, then the low byte at `SP - 2`. -/
def Pushes (v : Word) (s t : State) : Prop :=
  StoresTwo (s.cpu.sp - 1) (hiByte v) (s.cpu.sp - 2) (loByte v) s t

/-- The word at `SP` (41_load16.md R190): the low byte at `SP`, the high byte at `SP + 1`. -/
def State.stackTop (s : State) : Word := join (s.busRead (s.cpu.sp + 1)) (s.busRead s.cpu.sp)

/-- An address of plain RAM: VRAM, enabled external RAM, work RAM, its echo, OAM or high RAM. -/
def State.plainRam (s : State) (a : Word) : Prop :=
  (0x8000 ≤ a.toNat ∧ a.toNat ≤ 0x9FFF) ∨
  (0xA000 ≤ a.toNat ∧ a.toNat ≤ 0xBFFF ∧ s.cart.ramOffset a.toNat ≠ none) ∨
  (0xC000 ≤ a.toNat ∧ a.toNat ≤ 0xFE9F) ∨ (0xFF80 ≤ a.toNat ∧ a.toNat ≤ 0xFFFE)

/-! ## Instructions as a whole -/

/-- The 11 undefined opcodes (30_encoding.md R144). -/
def Instr.undefinedRows : List Instr :=
  [.undefD3, .undefDB, .undefDD, .undefE3, .undefE4, .undefEB, .undefEC, .undefED, .undefF4, .undefFC, .undefFD]

/-- The operand of an operation on A, form by form (42_alu8.md, section 2). -/
def AluForm (op : AluOp) (s : State) (i : Instr) (v : Byte) : Prop :=
  (∃ r, i = Instr.aluR op r ∧ v = s.reg r) ∨ (i = Instr.aluHl op ∧ v = s.busRead s.hl) ∨ i = Instr.aluN op v

/-- The encodings and costs of the three forms of an operation on A (42_alu8.md, section 2). -/
def AluShape (op : AluOp) : Prop :=
  (∀ r, encode (Instr.aluR op r) = [xyz 2 op.code r.code] ∧ HasCost (Instr.aluR op r) 4) ∧
  (encode (Instr.aluHl op) = [xyz 2 op.code 6] ∧ HasCost (Instr.aluHl op) 8) ∧
  ∀ n, encode (Instr.aluN op n) = [xyz 3 op.code 6, n] ∧ HasCost (Instr.aluN op n) 8

/-- The instruction completes and does to the register `q` what a load from the address `a` does: `q` holds the byte
at `a`, nothing else has changed. -/
def LoadsByte (i : Instr) (q : Reg8) (a : State → Word) : Prop :=
  ∀ s, ∃ t, exec i s = .next t ∧ t.reg q = s.busRead (a s) ∧ t.cpu.f = s.cpu.f ∧ RegFrame [q] s t

/-- The instruction completes with one store of the byte `v` at the address `a`; no register and no flag has changed. -/
def StoresByte (i : Instr) (a : State → Word) (v : State → Byte) : Prop :=
  ∀ s, ∃ t, exec i s = .next t ∧ StoresOne (a s) (v s) s t ∧ t.cpu = s.cpu

/-- A rotate or shift of the CB space in both its forms (44_rotate_shift_bit.md R254): encoding, cost, result byte and
flags, where `f` gives the result byte and the new carry flag from the operand and the old carry flag. -/
def RotatesBy (op : RotOp) (f : Byte → Bool → Byte × Bool) : Prop :=
  (∀ r : Reg8, encode (Instr.rotR op r) = [0xCB, xyz 0 op.code r.code] ∧ HasCost (Instr.rotR op r) 8 ∧
    ∀ s, ∃ t, exec (Instr.rotR op r) s = .next t ∧ t.reg r = (f (s.reg r) s.cpu.f.c).1 ∧
      t.cpu.f = { z := decide ((f (s.reg r) s.cpu.f.c).1 = 0), n := false, h := false, c := (f (s.reg r) s.cpu.f.c).2 } ∧
      RegFrame [r] s t) ∧
  (encode (Instr.rotHl op) = [0xCB, xyz 0 op.code 6] ∧ HasCost (Instr.rotHl op) 16 ∧
    ∀ s, ∃ t, exec (Instr.rotHl op) s = .next t ∧ StoresOne s.hl (f (s.busRead s.hl) s.cpu.f.c).1 s t ∧
      t.cpu = { s.cpu with f := { z := decide ((f (s.busRead s.hl) s.cpu.f.c).1 = 0), n := false, h := false,
                                  c := (f (s.busRead s.hl) s.cpu.f.c).2 } })

/-- The bus writes of an instruction, in the order they are made (40_load8.md to 46_system.md): address and byte. It is
given the state the instruction runs in, with `PC` past the instruction. -/
def storesOf (s : State) : Instr → List (Word × Byte)
  | .ldMemHlB => [(s.hl, s.cpu.b)]
  | .ldMemHlC => [(s.hl, s.cpu.c)]
  | .ldMemHlD => [(s.hl, s.cpu.d)]
  | .ldMemHlE => [(s.hl, s.cpu.e)]
  | .ldMemHlH => [(s.hl, s.cpu.h)]
  | .ldMemHlL => [(s.hl, s.cpu.l)]
  | .ldMemHlA => [(s.hl, s.cpu.a)]
  | .ldMemHlD8 n => [(s.hl, n)]
  | .ldMemBcA => [(s.bc, s.cpu.a)]
  | .ldMemDeA => [(s.de, s.cpu.a)]
  | .ldMemA16A v => [(v, s.cpu.a)]
  | .ldMemHlIncA => [(s.hl, s.cpu.a)]
  | .ldMemHlDecA => [(s.hl, s.cpu.a)]
  | .ldhMemA8A n => [(0xFF00 + n.setWidth 16, s.cpu.a)]
  | .ldMemCA => [(0xFF00 + s.cpu.c.setWidth 16, s.cpu.a)]
  | .ldMemA16Sp v => [(v, loByte s.cpu.sp), (v + 1, hiByte s.cpu.sp)]
  | .pushBc => pushed (s.stackPair .bc)
  | .pushDe => pushed (s.stackPair .de)
  | .pushHl => pushed (s.stackPair .hl)
  | .pushAf => pushed (s.stackPair .af)
  | .incMemHl => [(s.hl, s.busRead s.hl + 1)]
  | .decMemHl => [(s.hl, s.busRead s.hl - 1)]
  | .rlcMemHl => [(s.hl, (rot8 .rlc (s.busRead s.hl) s.cpu.f.c).val)]
  | .rrcMemHl => [(s.hl, (rot8 .rrc (s.busRead s.hl) s.cpu.f.c).val)]
  | .rlMemHl => [(s.hl, (rot8 .rl (s.busRead s.hl) s.cpu.f.c).val)]
  | .rrMemHl => [(s.hl, (rot8 .rr (s.busRead s.hl) s.cpu.f.c).val)]
  | .slaMemHl => [(s.hl, (rot8 .sla (s.busRead s.hl) s.cpu.f.c).val)]
  | .sraMemHl => [(s.hl, (rot8 .sra (s.busRead s.hl) s.cpu.f.c).val)]
  | .swapMemHl => [(s.hl, (rot8 .swap (s.busRead s.hl) s.cpu.f.c).val)]
  | .srlMemHl => [(s.hl, (rot8 .srl (s.busRead s.hl) s.cpu.f.c).val)]
  | .res0MemHl => [(s.hl, resBit 0 (s.busRead s.hl))]
  | .res1MemHl => [(s.hl, resBit 1 (s.busRead s.hl))]
  | .res2MemHl => [(s.hl, resBit 2 (s.busRead s.hl))]
  | .res3MemHl => [(s.hl, resBit 3 (s.busRead s.hl))]
  | .res4MemHl => [(s.hl, resBit 4 (s.busRead s.hl))]
  | .res5MemHl => [(s.hl, resBit 5 (s.busRead s.hl))]
  | .res6MemHl => [(s.hl, resBit 6 (s.busRead s.hl))]
  | .res7MemHl => [(s.hl, resBit 7 (s.busRead s.hl))]
  | .set0MemHl => [(s.hl, setBit 0 (s.busRead s.hl))]
  | .set1MemHl => [(s.hl, setBit 1 (s.busRead s.hl))]
  | .set2MemHl => [(s.hl, setBit 2 (s.busRead s.hl))]
  | .set3MemHl => [(s.hl, setBit 3 (s.busRead s.hl))]
  | .set4MemHl => [(s.hl, setBit 4 (s.busRead s.hl))]
  | .set5MemHl => [(s.hl, setBit 5 (s.busRead s.hl))]
  | .set6MemHl => [(s.hl, setBit 6 (s.busRead s.hl))]
  | .set7MemHl => [(s.hl, setBit 7 (s.busRead s.hl))]
  | .callA16 _ => pushed s.cpu.pc
  | .callNzA16 _ => if s.cpu.f.holds .nz then pushed s.cpu.pc else []
  | .callZA16 _ => if s.cpu.f.holds .z then pushed s.cpu.pc else []
  | .callNcA16 _ => if s.cpu.f.holds .nc then pushed s.cpu.pc else []
  | .callCA16 _ => if s.cpu.f.holds .c then pushed s.cpu.pc else []
  | .rst00 => pushed s.cpu.pc
  | .rst08 => pushed s.cpu.pc
  | .rst10 => pushed s.cpu.pc
  | .rst18 => pushed s.cpu.pc
  | .rst20 => pushed s.cpu.pc
  | .rst28 => pushed s.cpu.pc
  | .rst30 => pushed s.cpu.pc
  | .rst38 => pushed s.cpu.pc
  | _ => []
where
  /-- The two writes of a push (R190). -/
  pushed (v : Word) : List (Word × Byte) := [(s.cpu.sp - 1, hiByte v), (s.cpu.sp - 2, loByte v)]

/-- Bus writes made one after the other. -/
def State.busWrites (s : State) (ws : List (Word × Byte)) : State := ws.foldl (fun t w => t.busWrite w.1 w.2) s

/-- The instructions that write a flag (10_state.md R26): the 8-bit arithmetic and logic, INC and DEC of a byte, the
adjustments of A and the flags, `ADD HL`, `ADD SP`, `LD HL,SP+e8`, the rotates and shifts, `BIT`, and `POP AF`. -/
def Instr.writesFlags (i : Instr) : Prop :=
  (∃ op r, i = .aluR op r) ∨ (∃ op, i = .aluHl op) ∨ (∃ op n, i = .aluN op n) ∨
  (∃ r, i = .incR r ∨ i = .decR r) ∨ i = .incMemHl ∨ i = .decMemHl ∨ i = .daa ∨ i = .cpl ∨ i = .scf ∨ i = .ccf ∨
  (∃ p, i = .addHl p) ∨ (∃ e, i = .addSpE8 e ∨ i = .ldHlSpE8 e) ∨ i = .rlca ∨ i = .rrca ∨ i = .rla ∨ i = .rra ∨
  (∃ op r, i = .rotR op r) ∨ (∃ op, i = .rotHl op) ∨ (∃ n r, i = .bitR n r) ∨ (∃ n, i = .bitHl n) ∨ i = .popAf

/-- What a step makes of an instruction that has run and cost `c` cycles (60_exceptions.md R310, R312): the timer
advances, the wake check follows, the PPU advances. -/
def State.afterInstr (t : State) (c : Nat) : State := State.ppuRun c (State.wakeCheck (State.timerAdvance c t))

end Machine

end Sys2Proof
end

