-- ==== Sys2Proof/Certificates/Slice0/Obligations.lean ====
section
/-! DEFINITION. The statements about this machine that are to be proved, each from a rule of spec/. -/

section Statements

open Sys2Proof Sys2Proof.Machine

/-! ## Encoding (30_encoding.md) -/

/-- Decoding the encoding of a whole instruction gives it back, with every operand at every value, and leaves the bytes
that follow (R130, R131, R141 to R143). -/
def Obligations.DecodeOfEncode : Prop :=
  ∀ (i : Instr) (rest : List Byte), i.wellFormed = true → decode (encode i ++ rest) = .ok (i, rest)

/-- Bytes that decode are the encoding of what they decode to, followed by the bytes left: every instruction has one
encoding (R145). -/
def Obligations.EncodeOfDecode : Prop :=
  ∀ (bytes rest : List Byte) (i : Instr), decode bytes = .ok (i, rest) → bytes = encode i ++ rest

/-- Any three bytes begin with a whole instruction, whose length is fixed by its first byte as R146 says. -/
def Obligations.LengthOfFirstByte : Prop :=
  ∀ (op b c : Byte) (rest : List Byte), ∃ i : Instr,
    decode (op :: b :: c :: rest) = .ok (i, (b :: c :: rest).drop (i.length - 1)) ∧ i.wellFormed = true ∧
    i.length =
      if op ∈ [0x01, 0x08, 0x11, 0x21, 0x31, 0xC2, 0xC3, 0xC4, 0xCA, 0xCC, 0xCD, 0xD2, 0xD4, 0xDA, 0xDC, 0xEA, 0xFA] then 3
      else if op ∈ [0x06, 0x0E, 0x10, 0x16, 0x18, 0x1E, 0x20, 0x26, 0x28, 0x2E, 0x30, 0x36, 0x38, 0x3E, 0xC6, 0xCB, 0xCE,
                    0xD6, 0xDE, 0xE0, 0xE6, 0xE8, 0xEE, 0xF0, 0xF6, 0xF8, 0xFE] then 2
      else 1

/-- Words written out from R142 and R143, one or more for each family, decode to the instruction they stand for. -/
def Obligations.WordsOfTheSpec : Prop :=
  decode [0x3E, 0x05] = .ok (.ldAD8 5, []) ∧ decode [0x06, 0x03] = .ok (.ldBD8 3, []) ∧
  decode [0x80] = .ok (.addAB, []) ∧ decode [0x76] = .ok (.halt, []) ∧ decode [0x41] = .ok (.ldBC, []) ∧
  decode [0x70] = .ok (.ldMemHlB, []) ∧ decode [0xFA, 0x44, 0xFF] = .ok (.ldAMemA16 0xFF44, []) ∧
  decode [0x21, 0x4D, 0x01] = .ok (.ldHlD16 0x014D, []) ∧ decode [0xF5] = .ok (.pushAf, []) ∧
  decode [0x9C] = .ok (.sbcAH, []) ∧ decode [0x27] = .ok (.daa, []) ∧ decode [0x09] = .ok (.addHlBc, []) ∧
  decode [0xCB, 0x15] = .ok (.rlL, []) ∧ decode [0xCB, 0x7F] = .ok (.bit7A, []) ∧
  decode [0xC3, 0x50, 0x01] = .ok (.jpA16 0x0150, []) ∧ decode [0x20, 0xFC] = .ok (.jrNzE8 0xFC, []) ∧
  decode [0xEF] = .ok (.rst28, []) ∧ decode [0xD9] = .ok (.reti, []) ∧ decode [0x10, 0x00] = .ok (.stop 0, []) ∧
  decode [0xD3] = .ok (.undefD3, [])

/-- A step of a running CPU with no interrupt to service runs the instruction that the bytes at `PC` decode to, with
`PC` past it; then the timer advances by the cost, the wake check follows and the PPU advances by the same cost
(R310, R312). -/
def Obligations.StepRunsInstruction : Prop :=
  ∀ (s : State) (i : Instr) (rest : List Byte),
    (s.cpu.ime = false ∨ s.ie &&& s.iflag = 0) → s.cpu.halt = false →
    decode [s.busRead s.cpu.pc, s.busRead (s.cpu.pc + 1), s.busRead (s.cpu.pc + 2)] = .ok (i, rest) →
    step s =
      match exec i (s.setPc (s.cpu.pc + BitVec.ofNat 16 i.length)) with
      | .next t => .next (t.afterInstr (costOf i s))
      | .fault r => .fault r
      | .refused r => .refused r

/-! ## 8-bit loads (40_load8.md) -/

/-- `LD r,r'` (R160). -/
def Obligations.LoadRegReg : Prop :=
  ∀ q r : Reg8, encode (Instr.ldRR q r) = [xyz 1 q.code r.code] ∧ HasCost (Instr.ldRR q r) 4 ∧
    ∀ s, ∃ t, exec (Instr.ldRR q r) s = .next t ∧ t.reg q = s.reg r ∧ t.cpu.f = s.cpu.f ∧ RegFrame [q] s t

/-- `LD r,d8` (R161). -/
def Obligations.LoadRegImmediate : Prop :=
  ∀ (q : Reg8) (n : Byte), encode (Instr.ldRN q n) = [xyz 0 q.code 6, n] ∧ HasCost (Instr.ldRN q n) 8 ∧
    ∀ s, ∃ t, exec (Instr.ldRN q n) s = .next t ∧ t.reg q = n ∧ t.cpu.f = s.cpu.f ∧ RegFrame [q] s t

/-- `LD r,(HL)`, `LD A,(BC)`, `LD A,(DE)`, `LD A,(a16)`, `LDH A,(a8)`, `LD A,(C)` (R162, R165, R166, R169, R176, R178):
the register gets the byte at the address as it was before; nothing else changes. -/
def Obligations.LoadRegMemory : Prop :=
  (∀ q : Reg8, encode (Instr.ldRHl q) = [xyz 1 q.code 6] ∧ HasCost (Instr.ldRHl q) 8 ∧
    LoadsByte (Instr.ldRHl q) q (fun s => join s.cpu.h s.cpu.l)) ∧
  (encode .ldAMemBc = [0x0A] ∧ HasCost .ldAMemBc 8 ∧ LoadsByte .ldAMemBc .a (fun s => join s.cpu.b s.cpu.c)) ∧
  (encode .ldAMemDe = [0x1A] ∧ HasCost .ldAMemDe 8 ∧ LoadsByte .ldAMemDe .a (fun s => join s.cpu.d s.cpu.e)) ∧
  (∀ a : Word, encode (.ldAMemA16 a) = [0xFA, loByte a, hiByte a] ∧ HasCost (.ldAMemA16 a) 16 ∧
    LoadsByte (.ldAMemA16 a) .a (fun _ => a)) ∧
  (∀ n : Byte, encode (.ldhAMemA8 n) = [0xF0, n] ∧ HasCost (.ldhAMemA8 n) 12 ∧
    LoadsByte (.ldhAMemA8 n) .a (fun _ => 0xFF00 + n.setWidth 16)) ∧
  (encode .ldAMemC = [0xF2] ∧ HasCost .ldAMemC 8 ∧ LoadsByte .ldAMemC .a (fun s => 0xFF00 + s.cpu.c.setWidth 16))

/-- `LD A,(HL+)` and `LD A,(HL-)` (R173, R174): A gets the byte at the old HL, HL moves by one modulo 65536. -/
def Obligations.LoadAThenMoveHl : Prop :=
  encode .ldAMemHlInc = [0x2A] ∧ HasCost .ldAMemHlInc 8 ∧ encode .ldAMemHlDec = [0x3A] ∧ HasCost .ldAMemHlDec 8 ∧
  ∀ s, (∃ t, exec .ldAMemHlInc s = .next t ∧ t.cpu.a = s.busRead s.hl ∧ t.hl.toNat = (s.hl.toNat + 1) % 65536 ∧
      t.cpu.f = s.cpu.f ∧ RegFrame [.a, .h, .l] s t) ∧
    (∃ t, exec .ldAMemHlDec s = .next t ∧ t.cpu.a = s.busRead s.hl ∧ t.hl.toNat = (s.hl.toNat + 65535) % 65536 ∧
      t.cpu.f = s.cpu.f ∧ RegFrame [.a, .h, .l] s t)

/-- `LD (HL),r`, `LD (HL),d8`, `LD (BC),A`, `LD (DE),A`, `LD (a16),A`, `LDH (a8),A`, `LD (C),A` (R163, R164, R167, R168,
R170, R175, R177): one store of the byte at the address, and no register or flag changes. -/
def Obligations.StoreMemory : Prop :=
  (∀ r : Reg8, encode (Instr.ldHlR r) = [xyz 1 6 r.code] ∧ HasCost (Instr.ldHlR r) 8 ∧
    StoresByte (Instr.ldHlR r) (fun s => join s.cpu.h s.cpu.l) (fun s => s.reg r)) ∧
  (∀ n : Byte, encode (.ldMemHlD8 n) = [0x36, n] ∧ HasCost (.ldMemHlD8 n) 12 ∧
    StoresByte (.ldMemHlD8 n) (fun s => join s.cpu.h s.cpu.l) (fun _ => n)) ∧
  (encode .ldMemBcA = [0x02] ∧ HasCost .ldMemBcA 8 ∧
    StoresByte .ldMemBcA (fun s => join s.cpu.b s.cpu.c) (fun s => s.cpu.a)) ∧
  (encode .ldMemDeA = [0x12] ∧ HasCost .ldMemDeA 8 ∧
    StoresByte .ldMemDeA (fun s => join s.cpu.d s.cpu.e) (fun s => s.cpu.a)) ∧
  (∀ a : Word, encode (.ldMemA16A a) = [0xEA, loByte a, hiByte a] ∧ HasCost (.ldMemA16A a) 16 ∧
    StoresByte (.ldMemA16A a) (fun _ => a) (fun s => s.cpu.a)) ∧
  (∀ n : Byte, encode (.ldhMemA8A n) = [0xE0, n] ∧ HasCost (.ldhMemA8A n) 12 ∧
    StoresByte (.ldhMemA8A n) (fun _ => 0xFF00 + n.setWidth 16) (fun s => s.cpu.a)) ∧
  (encode .ldMemCA = [0xE2] ∧ HasCost .ldMemCA 8 ∧
    StoresByte .ldMemCA (fun s => 0xFF00 + s.cpu.c.setWidth 16) (fun s => s.cpu.a))

/-- `LD (HL+),A` and `LD (HL-),A` (R171, R172): A is stored at the old HL, HL moves by one modulo 65536. -/
def Obligations.StoreAThenMoveHl : Prop :=
  encode .ldMemHlIncA = [0x22] ∧ HasCost .ldMemHlIncA 8 ∧ encode .ldMemHlDecA = [0x32] ∧ HasCost .ldMemHlDecA 8 ∧
  ∀ s, (∃ t, exec .ldMemHlIncA s = .next t ∧ StoresOne s.hl s.cpu.a s t ∧ t.hl.toNat = (s.hl.toNat + 1) % 65536 ∧
      t.cpu.f = s.cpu.f ∧ CpuFrame [.h, .l] s t) ∧
    (∃ t, exec .ldMemHlDecA s = .next t ∧ StoresOne s.hl s.cpu.a s t ∧ t.hl.toNat = (s.hl.toNat + 65535) % 65536 ∧
      t.cpu.f = s.cpu.f ∧ CpuFrame [.h, .l] s t)

/-! ## 16-bit loads and the stack (41_load16.md) -/

/-- `LD rr,d16` and `LD SP,HL` (R191, R192). -/
def Obligations.LoadPair : Prop :=
  (∀ (p : Pair) (v : Word), encode (Instr.ldPairNN p v) = [xyz 0 (2 * p.code) 1, loByte v, hiByte v] ∧
    HasCost (Instr.ldPairNN p v) 12 ∧
    ∀ s, ∃ t, exec (Instr.ldPairNN p v) s = .next t ∧ t.pair p = v ∧ t.cpu.f = s.cpu.f ∧ PairFrame p s t) ∧
  (encode .ldSpHl = [0xF9] ∧ HasCost .ldSpHl 8 ∧
    ∀ s, ∃ t, exec .ldSpHl s = .next t ∧ t.cpu.sp = join s.cpu.h s.cpu.l ∧ t.cpu.f = s.cpu.f ∧ PairFrame .sp s t)

/-- `LD (a16),SP` (R193): the low byte of SP at `a`, then the high byte at `a + 1` modulo 65536. -/
def Obligations.StoreSp : Prop :=
  ∀ a : Word, encode (.ldMemA16Sp a) = [0x08, loByte a, hiByte a] ∧ HasCost (.ldMemA16Sp a) 20 ∧
    ∀ s, ∃ t, exec (.ldMemA16Sp a) s = .next t ∧
      StoresTwo a (s.cpu.sp.extractLsb' 0 8) (a + 1) (s.cpu.sp.extractLsb' 8 8) s t ∧ t.cpu = s.cpu

/-- `PUSH rr` (R194): the high byte at `SP - 1`, then the low byte at `SP - 2`, and SP is 2 lower; of AF the low byte is
`F`, whose low nibble is 0. -/
def Obligations.PushPair : Prop :=
  ∀ p : StackPair, encode (Instr.push p) = [xyz 3 (2 * p.code) 5] ∧ HasCost (Instr.push p) 16 ∧
    ∀ s, (∃ t, exec (Instr.push p) s = .next t ∧ Pushes (s.stackPair p) s t ∧
        t.cpu = { s.cpu with sp := s.cpu.sp - 2 }) ∧
      s.stackPair .bc = join s.cpu.b s.cpu.c ∧ s.stackPair .de = join s.cpu.d s.cpu.e ∧
      s.stackPair .hl = join s.cpu.h s.cpu.l ∧
      s.stackPair .af = join s.cpu.a (BitVec.ofNat 8 (128 * s.cpu.f.z.toNat + 64 * s.cpu.f.n.toNat +
        32 * s.cpu.f.h.toNat + 16 * s.cpu.f.c.toNat))

/-- `POP rr` (R195): the word at SP goes to the pair and SP is 2 higher; for AF the flags are bits 7 to 4 of the low
byte, for the other pairs no flag changes. -/
def Obligations.PopPair : Prop :=
  ∀ p : StackPair, encode (Instr.pop p) = [xyz 3 (2 * p.code) 1] ∧ HasCost (Instr.pop p) 12 ∧
    ∀ s, ∃ t, exec (Instr.pop p) s = .next t ∧ t.cpu.sp = s.cpu.sp + 2 ∧
      (p ≠ .af → t.stackPair p = s.stackTop ∧ t.cpu.f = s.cpu.f) ∧
      (p = .af → t.cpu.a = s.busRead (s.cpu.sp + 1) ∧
        t.cpu.f = { z := (s.busRead s.cpu.sp).getLsbD 7, n := (s.busRead s.cpu.sp).getLsbD 6,
                    h := (s.busRead s.cpu.sp).getLsbD 5, c := (s.busRead s.cpu.sp).getLsbD 4 }) ∧
      SameOutsideCpu s t ∧ (∀ r : Reg8, r ∉ StackPair.regs p → t.reg r = s.reg r) ∧ t.cpu.pc = s.cpu.pc ∧
      t.cpu.halt = s.cpu.halt ∧ t.cpu.ime = s.cpu.ime

/-- `LD HL,SP+e8` and `ADD SP,e8` (R196, R243): the sum of SP and the sign-extended displacement, Z and N clear, H and C
bits 4 and 8 of `SP ^ e ^ result`. The clause that these are the carries out of bits 3 and 7 of the byte addition is
the spec's own inference (R196: "derived"). -/
def Obligations.SpPlusDisplacement : Prop :=
  ∀ n : Byte, encode (.ldHlSpE8 n) = [0xF8, n] ∧ HasCost (.ldHlSpE8 n) 12 ∧ encode (.addSpE8 n) = [0xE8, n] ∧
    HasCost (.addSpE8 n) 16 ∧
    ∀ s, let e : Word := if n.toNat < 128 then n.setWidth 16 else n.setWidth 16 + 0xFF00
      let sum := s.cpu.sp + e
      let flags : Flags := { z := false, n := false, h := (s.cpu.sp ^^^ e ^^^ sum).getLsbD 4,
                             c := (s.cpu.sp ^^^ e ^^^ sum).getLsbD 8 }
      (∃ t, exec (.ldHlSpE8 n) s = .next t ∧ t.hl = sum ∧ t.cpu.f = flags ∧ PairFrame .hl s t) ∧
      (∃ t, exec (.addSpE8 n) s = .next t ∧ t.cpu.sp = sum ∧ t.cpu.f = flags ∧ PairFrame .sp s t) ∧
      flags.h = decide (s.cpu.sp.toNat % 16 + n.toNat % 16 > 15) ∧
      flags.c = decide (s.cpu.sp.toNat % 256 + n.toNat > 255)

/-! ## 8-bit arithmetic and logic (42_alu8.md) -/

/-- `ADD A` and `ADC A` in all three operand forms (R201 to R206). -/
def Obligations.AddToA : Prop :=
  AluShape .add ∧ AluShape .adc ∧
  ∀ (op : AluOp) (s : State) (i : Instr) (v : Byte), op = .add ∨ op = .adc → AluForm op s i v →
    let cin := if op = .adc ∧ s.cpu.f.c = true then 1 else 0
    let sum := s.cpu.a.toNat + v.toNat + cin
    ∃ t, exec i s = .next t ∧ t.cpu.a.toNat = sum % 256 ∧
      t.cpu.f = { z := decide (sum % 256 = 0), n := false, h := decide (s.cpu.a.toNat % 16 + v.toNat % 16 + cin > 15),
                  c := decide (sum > 255) } ∧
      RegFrame [.a] s t

/-- `SUB` and `CP` in all three operand forms (R207 to R209, R222 to R224): CP writes no register. -/
def Obligations.SubtractFromA : Prop :=
  AluShape .sub ∧ AluShape .cp ∧
  ∀ (op : AluOp) (s : State) (i : Instr) (v : Byte), op = .sub ∨ op = .cp → AluForm op s i v →
    let d : Int := (s.cpu.a.toNat : Int) - v.toNat
    ∃ t, exec i s = .next t ∧ (op = .sub → (t.cpu.a.toNat : Int) = d % 256) ∧
      t.cpu.f = { z := decide (d % 256 = 0), n := true, h := decide (s.cpu.a.toNat % 16 < v.toNat % 16),
                  c := decide (d < 0) } ∧
      RegFrame (if op = .cp then [] else [.a]) s t

/-- `SBC A` in all three operand forms (R210 to R212), with the carry-in in both borrows: the spec's decision D27. -/
def Obligations.SubtractWithCarry : Prop :=
  AluShape .sbc ∧
  ∀ (s : State) (i : Instr) (v : Byte), AluForm .sbc s i v →
    let cin : Nat := if s.cpu.f.c = true then 1 else 0
    let d : Int := (s.cpu.a.toNat : Int) - v.toNat - cin
    ∃ t, exec i s = .next t ∧ (t.cpu.a.toNat : Int) = d % 256 ∧
      t.cpu.f = { z := decide (d % 256 = 0), n := true, h := decide (s.cpu.a.toNat % 16 < v.toNat % 16 + cin),
                  c := decide (d < 0) } ∧
      RegFrame [.a] s t

/-- `AND`, `XOR` and `OR` in all three operand forms (R213 to R221). -/
def Obligations.LogicWithA : Prop :=
  AluShape .and ∧ AluShape .xor ∧ AluShape .or ∧
  ∀ (op : AluOp) (s : State) (i : Instr) (v : Byte), op = .and ∨ op = .xor ∨ op = .or → AluForm op s i v →
    ∃ t, exec i s = .next t ∧
      (∀ k, t.cpu.a.getLsbD k =
        if op = .and then s.cpu.a.getLsbD k && v.getLsbD k
        else if op = .xor then s.cpu.a.getLsbD k != v.getLsbD k
        else s.cpu.a.getLsbD k || v.getLsbD k) ∧
      t.cpu.f = { z := decide (t.cpu.a.toNat = 0), n := false, h := decide (op = .and), c := false } ∧
      RegFrame [.a] s t

/-- `INC r` and `DEC r` (R225, R227): the carry flag is unchanged. -/
def Obligations.StepRegister : Prop :=
  ∀ r : Reg8, encode (Instr.incR r) = [xyz 0 r.code 4] ∧ HasCost (Instr.incR r) 4 ∧
    encode (Instr.decR r) = [xyz 0 r.code 5] ∧ HasCost (Instr.decR r) 4 ∧
    ∀ s, (∃ t, exec (Instr.incR r) s = .next t ∧ (t.reg r).toNat = ((s.reg r).toNat + 1) % 256 ∧
        t.cpu.f = { z := decide ((t.reg r).toNat = 0), n := false, h := decide ((t.reg r).toNat % 16 = 0),
                    c := s.cpu.f.c } ∧ RegFrame [r] s t) ∧
      (∃ t, exec (Instr.decR r) s = .next t ∧ (t.reg r).toNat = ((s.reg r).toNat + 255) % 256 ∧
        t.cpu.f = { z := decide ((t.reg r).toNat = 0), n := true, h := decide ((t.reg r).toNat % 16 = 15),
                    c := s.cpu.f.c } ∧ RegFrame [r] s t)

/-- `INC (HL)` and `DEC (HL)` (R226, R228): one read, one write of the same address, flags from the sum whatever the
write made of it. -/
def Obligations.StepMemory : Prop :=
  encode .incMemHl = [0x34] ∧ HasCost .incMemHl 12 ∧ encode .decMemHl = [0x35] ∧ HasCost .decMemHl 12 ∧
  ∀ s, let up : Byte := BitVec.ofNat 8 ((s.busRead s.hl).toNat + 1)
    let down : Byte := BitVec.ofNat 8 ((s.busRead s.hl).toNat + 255)
    (∃ t, exec .incMemHl s = .next t ∧ StoresOne s.hl up s t ∧
      t.cpu = { s.cpu with f := { z := decide (up.toNat = 0), n := false, h := decide (up.toNat % 16 = 0),
                                  c := s.cpu.f.c } }) ∧
    (∃ t, exec .decMemHl s = .next t ∧ StoresOne s.hl down s t ∧
      t.cpu = { s.cpu with f := { z := decide (down.toNat = 0), n := true, h := decide (down.toNat % 16 = 15),
                                  c := s.cpu.f.c } })

/-- `DAA` (R229), in the formulation R229 gives as equal to its own on every A and every flag: after an addition 0x60 is
added and C set if C was set or A is above 0x99, 6 is added if H or the low digit is above 9; after a subtraction
the same amounts are taken off where C and H say so. Rests on the spec's decision D26 (the unbounded intermediate). -/
def Obligations.DecimalAdjust : Prop :=
  encode .daa = [0x27] ∧ HasCost .daa 4 ∧
  ∀ s, let a := s.cpu.a.toNat
    let f := s.cpu.f
    let high := f.c || (!f.n && decide (a > 0x99))
    let low := f.h || (!f.n && decide (a % 16 > 9))
    let amount : Int := (if high then 0x60 else 0) + (if low then 6 else 0)
    let x : Int := (if f.n then (a : Int) - amount else a + amount) % 256
    ∃ t, exec .daa s = .next t ∧ (t.cpu.a.toNat : Int) = x ∧
      t.cpu.f = { z := decide (x = 0), n := f.n, h := false, c := high } ∧ RegFrame [.a] s t

/-- `CPL`, `SCF` and `CCF` (R230 to R232). -/
def Obligations.ComplementAndCarry : Prop :=
  encode .cpl = [0x2F] ∧ HasCost .cpl 4 ∧ encode .scf = [0x37] ∧ HasCost .scf 4 ∧ encode .ccf = [0x3F] ∧ HasCost .ccf 4 ∧
  ∀ s, (∃ t, exec .cpl s = .next t ∧ t.cpu.a.toNat = 255 - s.cpu.a.toNat ∧
      t.cpu.f = { z := s.cpu.f.z, n := true, h := true, c := s.cpu.f.c } ∧ RegFrame [.a] s t) ∧
    (∃ t, exec .scf s = .next t ∧ t.cpu.f = { z := s.cpu.f.z, n := false, h := false, c := true } ∧ RegFrame [] s t) ∧
    (∃ t, exec .ccf s = .next t ∧ t.cpu.f = { z := s.cpu.f.z, n := false, h := false, c := !s.cpu.f.c } ∧
      RegFrame [] s t)

/-! ## 16-bit arithmetic (43_alu16.md) -/

/-- `ADD HL,rr` (R240): Z is unchanged. -/
def Obligations.AddToHl : Prop :=
  ∀ p : Pair, encode (Instr.addHl p) = [xyz 0 (2 * p.code + 1) 1] ∧ HasCost (Instr.addHl p) 8 ∧
    ∀ s, ∃ t, exec (Instr.addHl p) s = .next t ∧ t.hl.toNat = (s.hl.toNat + (s.pair p).toNat) % 65536 ∧
      t.cpu.f = { z := s.cpu.f.z, n := false, h := decide (s.hl.toNat % 4096 + (s.pair p).toNat % 4096 > 4095),
                  c := decide (s.hl.toNat + (s.pair p).toNat > 65535) } ∧
      PairFrame .hl s t

/-- `INC rr` and `DEC rr` (R241, R242): no flag changes. -/
def Obligations.StepPair : Prop :=
  ∀ p : Pair, encode (Instr.incPair p) = [xyz 0 (2 * p.code) 3] ∧ HasCost (Instr.incPair p) 8 ∧
    encode (Instr.decPair p) = [xyz 0 (2 * p.code + 1) 3] ∧ HasCost (Instr.decPair p) 8 ∧
    ∀ s, (∃ t, exec (Instr.incPair p) s = .next t ∧ (t.pair p).toNat = ((s.pair p).toNat + 1) % 65536 ∧
        t.cpu.f = s.cpu.f ∧ PairFrame p s t) ∧
      (∃ t, exec (Instr.decPair p) s = .next t ∧ (t.pair p).toNat = ((s.pair p).toNat + 65535) % 65536 ∧
        t.cpu.f = s.cpu.f ∧ PairFrame p s t)

/-! ## Rotates, shifts and bits (44_rotate_shift_bit.md) -/

/-- `RLCA`, `RRCA`, `RLA` and `RRA` (R250 to R253): Z is 0 whatever the result. -/
def Obligations.RotateA : Prop :=
  encode .rlca = [0x07] ∧ HasCost .rlca 4 ∧ encode .rrca = [0x0F] ∧ HasCost .rrca 4 ∧
  encode .rla = [0x17] ∧ HasCost .rla 4 ∧ encode .rra = [0x1F] ∧ HasCost .rra 4 ∧
  ∀ s, let left : Flags := { z := false, n := false, h := false, c := s.cpu.a.getLsbD 7 }
    let right : Flags := { z := false, n := false, h := false, c := s.cpu.a.getLsbD 0 }
    (∃ t, exec .rlca s = .next t ∧ t.cpu.a = s.cpu.a.rotateLeft 1 ∧ t.cpu.f = left ∧ RegFrame [.a] s t) ∧
    (∃ t, exec .rrca s = .next t ∧ t.cpu.a = s.cpu.a.rotateRight 1 ∧ t.cpu.f = right ∧ RegFrame [.a] s t) ∧
    (∃ t, exec .rla s = .next t ∧ t.cpu.a.toNat = (2 * s.cpu.a.toNat + s.cpu.f.c.toNat) % 256 ∧ t.cpu.f = left ∧
      RegFrame [.a] s t) ∧
    (∃ t, exec .rra s = .next t ∧ t.cpu.a.toNat = s.cpu.a.toNat / 2 + 128 * s.cpu.f.c.toNat ∧ t.cpu.f = right ∧
      RegFrame [.a] s t)

/-- `RLC`, `RRC`, `RL` and `RR` of a register and of the byte at HL (R255 to R262). -/
def Obligations.RotateCb : Prop :=
  RotatesBy .rlc (fun v _ => (v.rotateLeft 1, v.getLsbD 7)) ∧
  RotatesBy .rrc (fun v _ => (v.rotateRight 1, v.getLsbD 0)) ∧
  RotatesBy .rl (fun v c => (BitVec.ofNat 8 (2 * v.toNat + c.toNat), v.getLsbD 7)) ∧
  RotatesBy .rr (fun v c => (BitVec.ofNat 8 (v.toNat / 2 + 128 * c.toNat), v.getLsbD 0))

/-- `SLA`, `SRA`, `SWAP` and `SRL` of a register and of the byte at HL (R263 to R270). -/
def Obligations.ShiftCb : Prop :=
  RotatesBy .sla (fun v _ => (BitVec.ofNat 8 (2 * v.toNat), v.getLsbD 7)) ∧
  RotatesBy .sra (fun v _ => (BitVec.ofInt 8 (v.toInt / 2), v.getLsbD 0)) ∧
  RotatesBy .swap (fun v _ => (BitVec.ofNat 8 (v.toNat % 16 * 16 + v.toNat / 16), false)) ∧
  RotatesBy .srl (fun v _ => (BitVec.ofNat 8 (v.toNat / 2), v.getLsbD 0))

/-- `BIT n` of a register and of the byte at HL (R271, R272): nothing is written but the flags. -/
def Obligations.TestBit : Prop :=
  ∀ n : BitIndex,
    (∀ r : Reg8, encode (Instr.bitR n r) = [0xCB, xyz 1 n.val r.code] ∧ HasCost (Instr.bitR n r) 8 ∧
      ∀ s, ∃ t, exec (Instr.bitR n r) s = .next t ∧
        t.cpu.f = { z := decide ((s.reg r).toNat / 2 ^ n.val % 2 = 0), n := false, h := true, c := s.cpu.f.c } ∧
        RegFrame [] s t) ∧
    (encode (Instr.bitHl n) = [0xCB, xyz 1 n.val 6] ∧ HasCost (Instr.bitHl n) 12 ∧
      ∀ s, ∃ t, exec (Instr.bitHl n) s = .next t ∧
        t.cpu.f = { z := decide ((s.busRead s.hl).toNat / 2 ^ n.val % 2 = 0), n := false, h := true, c := s.cpu.f.c } ∧
        RegFrame [] s t)

/-- `RES n` and `SET n` of a register and of the byte at HL (R273 to R276): bit `n` alone is cleared or set, and the
write of a memory operand happens even where the byte does not change. -/
def Obligations.ResetAndSetBit : Prop :=
  ∀ n : BitIndex,
    (∀ r : Reg8, encode (Instr.resR n r) = [0xCB, xyz 2 n.val r.code] ∧ HasCost (Instr.resR n r) 8 ∧
      encode (Instr.setR n r) = [0xCB, xyz 3 n.val r.code] ∧ HasCost (Instr.setR n r) 8 ∧
      ∀ s, (∃ t, exec (Instr.resR n r) s = .next t ∧
          (∀ k, (t.reg r).getLsbD k = ((s.reg r).getLsbD k && decide (k ≠ n.val))) ∧ t.cpu.f = s.cpu.f ∧ RegFrame [r] s t) ∧
        (∃ t, exec (Instr.setR n r) s = .next t ∧
          (∀ k, (t.reg r).getLsbD k = ((s.reg r).getLsbD k || decide (k = n.val))) ∧ t.cpu.f = s.cpu.f ∧ RegFrame [r] s t)) ∧
    encode (Instr.resHl n) = [0xCB, xyz 2 n.val 6] ∧ HasCost (Instr.resHl n) 16 ∧
    encode (Instr.setHl n) = [0xCB, xyz 3 n.val 6] ∧ HasCost (Instr.setHl n) 16 ∧
    ∀ s, (∃ v t, exec (Instr.resHl n) s = .next t ∧
        (∀ k, v.getLsbD k = ((s.busRead s.hl).getLsbD k && decide (k ≠ n.val))) ∧ StoresOne s.hl v s t ∧ t.cpu = s.cpu) ∧
      (∃ v t, exec (Instr.setHl n) s = .next t ∧
        (∀ k, v.getLsbD k = ((s.busRead s.hl).getLsbD k || decide (k = n.val))) ∧ StoresOne s.hl v s t ∧ t.cpu = s.cpu)

/-! ## Control transfer (45_control.md) -/

/-- `JP a16`, `JP cc,a16`, `JP HL`, `JR e8` and `JR cc,e8` (R281 to R285) with the conditions of R280: `PC` alone
changes, and only where the condition holds. In the state given to `exec`, `PC` is past the instruction. -/
def Obligations.Jumps : Prop :=
  (∀ f : Flags, f.holds .nz = !f.z ∧ f.holds .z = f.z ∧ f.holds .nc = !f.c ∧ f.holds .c = f.c) ∧
  (∀ a : Word, encode (.jpA16 a) = [0xC3, loByte a, hiByte a] ∧ HasCost (.jpA16 a) 16 ∧
    ∀ s, exec (.jpA16 a) s = .next { s with cpu := { s.cpu with pc := a } }) ∧
  (∀ (cc : Cond) (a : Word), encode (Instr.jpCc cc a) = [xyz 3 cc.code 2, loByte a, hiByte a] ∧
    HasCosts (Instr.jpCc cc a) cc 16 12 ∧
    ∀ s, exec (Instr.jpCc cc a) s =
      .next { s with cpu := { s.cpu with pc := if s.cpu.f.holds cc then a else s.cpu.pc } }) ∧
  (encode .jpHl = [0xE9] ∧ HasCost .jpHl 4 ∧
    ∀ s, exec .jpHl s = .next { s with cpu := { s.cpu with pc := join s.cpu.h s.cpu.l } }) ∧
  ∀ n : Byte, let e : Word := if n.toNat < 128 then n.setWidth 16 else n.setWidth 16 + 0xFF00
    (encode (.jrE8 n) = [0x18, n] ∧ HasCost (.jrE8 n) 12 ∧
      ∀ s, exec (.jrE8 n) s = .next { s with cpu := { s.cpu with pc := s.cpu.pc + e } }) ∧
    ∀ cc : Cond, encode (Instr.jrCc cc n) = [xyz 0 (4 + cc.code) 0, n] ∧ HasCosts (Instr.jrCc cc n) cc 12 8 ∧
      ∀ s, exec (Instr.jrCc cc n) s =
        .next { s with cpu := { s.cpu with pc := if s.cpu.f.holds cc then s.cpu.pc + e else s.cpu.pc } }

/-- `CALL a16`, `CALL cc,a16` and `RST n` (R286, R287, R292): `PC`, past the instruction, is pushed; a call not taken
changes nothing. -/
def Obligations.Calls : Prop :=
  (∀ a : Word, encode (.callA16 a) = [0xCD, loByte a, hiByte a] ∧ HasCost (.callA16 a) 24 ∧
    ∀ s, ∃ t, exec (.callA16 a) s = .next t ∧ Pushes s.cpu.pc s t ∧
      t.cpu = { s.cpu with sp := s.cpu.sp - 2, pc := a }) ∧
  (∀ (cc : Cond) (a : Word), encode (Instr.callCc cc a) = [xyz 3 cc.code 4, loByte a, hiByte a] ∧
    HasCosts (Instr.callCc cc a) cc 24 12 ∧
    ∀ s, ∃ t, exec (Instr.callCc cc a) s = .next t ∧
      (s.cpu.f.holds cc = true → Pushes s.cpu.pc s t ∧ t.cpu = { s.cpu with sp := s.cpu.sp - 2, pc := a }) ∧
      (s.cpu.f.holds cc = false → t = s)) ∧
  (∀ y : RstIndex, encode (Instr.rst y) = [xyz 3 y.val 7] ∧ HasCost (Instr.rst y) 16 ∧
    ∀ s, ∃ t, exec (Instr.rst y) s = .next t ∧ Pushes s.cpu.pc s t ∧
      t.cpu = { s.cpu with sp := s.cpu.sp - 2, pc := BitVec.ofNat 16 (8 * y.val) })

/-- `RET`, `RET cc` and `RETI` (R288 to R290): the word at SP becomes `PC` and SP is 2 higher; a return not taken changes
nothing; `RETI` sets `ime` as well. -/
def Obligations.Returns : Prop :=
  (encode .ret = [0xC9] ∧ HasCost .ret 16 ∧
    ∀ s, exec .ret s = .next { s with cpu := { s.cpu with sp := s.cpu.sp + 2, pc := s.stackTop } }) ∧
  (∀ cc : Cond, encode (Instr.retCc cc) = [xyz 3 cc.code 0] ∧ HasCosts (Instr.retCc cc) cc 20 8 ∧
    ∀ s, exec (Instr.retCc cc) s =
      .next (if s.cpu.f.holds cc then { s with cpu := { s.cpu with sp := s.cpu.sp + 2, pc := s.stackTop } } else s)) ∧
  (encode .reti = [0xD9] ∧ HasCost .reti 16 ∧
    ∀ s, exec .reti s =
      .next { s with cpu := { s.cpu with sp := s.cpu.sp + 2, pc := s.stackTop, ime := true } })

/-- A push followed by a pop of the same pair gives the pair and SP back where the two stack bytes are plain RAM
(R190). -/
def Obligations.PopAfterPush : Prop :=
  ∀ (p : StackPair) (s t u : State), State.wf s = true → s.plainRam (s.cpu.sp - 1) → s.plainRam (s.cpu.sp - 2) →
    exec (Instr.push p) s = .next t → exec (Instr.pop p) t = .next u →
    u.cpu = s.cpu ∧ u.stackPair p = s.stackPair p

/-- A return right after a call, where the two stack bytes are plain RAM, comes back to the instruction after the call
with SP as before (R286, R288). -/
def Obligations.ReturnAfterCall : Prop :=
  ∀ (a : Word) (s t u : State), State.wf s = true → s.plainRam (s.cpu.sp - 1) → s.plainRam (s.cpu.sp - 2) →
    exec (.callA16 a) s = .next t → exec .ret t = .next u → t.cpu.pc = a ∧ u.cpu = s.cpu

/-! ## System instructions, undefined opcodes, the prefix (46_system.md) -/

/-- `NOP` changes nothing and `DI` clears `ime` at once and changes nothing else (R300, R302). -/
def Obligations.NopAndDi : Prop :=
  encode .nop = [0x00] ∧ HasCost .nop 4 ∧ encode .di = [0xF3] ∧ HasCost .di 4 ∧
  ∀ s, exec .nop s = .next s ∧ exec .di s = .next { s with cpu := { s.cpu with ime := false } }

/-- `HALT` sets `halt`, `EI` sets `ime` at once, `STOP` has no effect (R301, R303, R304). That EI has no delay, that
there is no halt bug and that STOP does nothing are the spec's decisions D4, D5 and D7 (notes/assumptions/20). -/
def Obligations.HaltEiStop : Prop :=
  encode .halt = [0x76] ∧ HasCost .halt 4 ∧ encode .ei = [0xFB] ∧ HasCost .ei 4 ∧
  (∀ n : Byte, encode (.stop n) = [0x10, n] ∧ HasCost (.stop n) 4) ∧
  ∀ s, exec .halt s = .next { s with cpu := { s.cpu with halt := true } } ∧
    exec .ei s = .next { s with cpu := { s.cpu with ime := true } } ∧ ∀ n, exec (.stop n) s = .next s

/-- The 11 undefined opcodes have no effect, or, under the parameter UNDEF_POLICY = stuck, no further step (R305, the
spec's decision D6, notes/assumptions/14). -/
def Obligations.UndefinedOpcodes : Prop :=
  Instr.undefinedRows.map encode =
    [[0xD3], [0xDB], [0xDD], [0xE3], [0xE4], [0xEB], [0xEC], [0xED], [0xF4], [0xFC], [0xFD]] ∧
  ∀ i ∈ Instr.undefinedRows, HasCost i 4 ∧
    ∀ s, (s.params.undefPolicy = .nop → exec i s = .next s) ∧
      (s.params.undefPolicy = .stuck → exec i s = .fault .undefinedOpcode)

/-- The prefix `CB` (R306): the second byte is read from `PC`, `PC` passes it, and the CB instruction it selects runs, at
the cost of that instruction alone; every second byte is one. -/
def Obligations.PrefixDispatch : Prop :=
  (∀ (op2 : Byte) (rest : List Byte), decode (0xCB :: op2 :: rest) = .ok (cbRow op2, rest) ∧
    HasCost (cbRow op2) (if op2.toNat % 8 = 6 then (if op2.toNat / 64 = 1 then 12 else 16) else 8)) ∧
  ∀ s, let op2 := s.busRead s.cpu.pc
    exec .prefixCb s = exec (cbRow op2) { s with cpu := { s.cpu with pc := s.cpu.pc + 1 } } ∧
    costOf .prefixCb s = costOf (cbRow op2) s ∧ ∃ t, exec .prefixCb s = .next t

/-! ## The machine as a whole -/

/-- Every step returns a next state (60_exceptions.md R311); the one exception is an undefined opcode under the
parameter UNDEF_POLICY = stuck (R305, notes/assumptions/14). -/
def Obligations.EveryStepReturns : Prop :=
  ∀ s, (s.params.undefPolicy = .nop → ∃ t, step s = .next t) ∧
    ((∃ t, step s = .next t) ∨
      (step s = .fault .undefinedOpcode ∧ s.params.undefPolicy = .stuck ∧ s.cpu.halt = false ∧
        [s.busRead s.cpu.pc] ∈ Instr.undefinedRows.map encode))

/-- A step from a safe state leads to a safe state: every memory keeps its canonical form and its size, shades stay 0 to
3, `rom_bank_lo` is never 0, `DivTimer` stays below 256, the PPU counter below 70224 with LY its row and the mode the
one it calls for (10_state.md R50, R52 to R54, 60_exceptions.md R348). -/
def Obligations.StepKeepsSafe : Prop :=
  (∀ s t, State.wf s = true → step s = .next t → State.wf t = true) ∧
  ∀ (k : Keys) (s : State), State.wf s = true → State.wf (joypadApply k s) = true

/-- The state after reset is safe, with the blank cartridge and with every cartridge that loads. -/
def Obligations.ResetIsSafe : Prop :=
  State.wf State.reset = true ∧
  ∀ (image : List Byte) (c : Cartridge) (p : Params), Cartridge.load image = .ok c → State.wf (State.powerOn c p) = true

/-- What reset leaves (10_state.md R60): whatever the reset parameters, the seven register values and the PPU counter the
source gives, and every other value, each memory and PRI among them, that of the parameters (00_scope.md R7); with
these at the defaults that the spec chose (decisions D15 and D36; notes/assumptions/2 and 3), every register of the
bus, every byte of RAM and every hidden count. -/
def Obligations.ResetValues : Prop :=
  (∀ (c : Cartridge) (p : Params) (v : State), let s := State.resetWith c p v
    s.cpu.pc = 0x0100 ∧ s.cpu.sp = 0xFFFE ∧ s.cpu.a = 0x01 ∧ s.cpu.f.toByte = 0xB0 ∧ s.bc = 0x0013 ∧ s.de = 0x00D8 ∧
    s.hl = 0x014D ∧ s.cpu.halt = v.cpu.halt ∧ s.cpu.ime = v.cpu.ime ∧
    s = { v with cpu := s.cpu, ppu := { v.ppu with cycles := 0 }, cart := c, params := p }) ∧
  ∀ (c : Cartridge) (p : Params), let s := State.powerOn c p
    s.cpu = State.reset.cpu ∧ s.cpu.halt = false ∧ s.cpu.ime = false ∧
    (∀ a : Word, 0xFF00 ≤ a.toNat → s.busRead a =
      if a.toNat = 0xFF00 then 0x0F
      else if a.toNat = 0xFF01 ∨ (0xFF04 ≤ a.toNat ∧ a.toNat ≤ 0xFF07) ∨ a.toNat = 0xFF0F ∨
        (0xFF40 ≤ a.toNat ∧ a.toNat ≤ 0xFF4B ∧ a.toNat ≠ 0xFF46) ∨ 0xFF80 ≤ a.toNat then 0x00
      else 0xFF) ∧
    (∀ a : Word, (0x8000 ≤ a.toNat ∧ a.toNat ≤ 0x9FFF) ∨ (0xC000 ≤ a.toNat ∧ a.toNat ≤ 0xFE9F) → s.busRead a = 0x00) ∧
    s.timer.divTimer = 0 ∧ s.timer.timer = 0 ∧ s.dbgOut = [] ∧ s.joypad.cur = .released ∧
    s.joypad.prev = .released ∧ s.ppu.cycles = 0 ∧ s.ppu.fb = [] ∧ ∀ x : Fin 160, s.ppu.pri[x] = .undrawn

/-- Whatever instruction runs, outside the CPU it changes nothing but by the bus writes it makes, and it makes exactly
those of `storesOf`: none for an instruction that stores nothing (20_memory.md R70). -/
def Obligations.OnlyBusWrites : Prop :=
  ∀ (i : Instr) (s t : State), i.wellFormed = true → exec i s = .next t →
    t = { s.busWrites (storesOf s i) with cpu := t.cpu }

/-- A bus write changes the reading of no address it cannot reach (20_memory.md R73, R80, R96, R105 to R111). -/
def Obligations.BusWriteFrame : Prop :=
  ∀ (s : State) (a x : Word) (v : Byte), ¬ s.touches a x → (s.busWrite a v).busRead x = s.busRead x

/-- No step changes a ROM byte, the size of the image or of cartridge RAM, the kind of controller or a parameter
(20_memory.md R102, 00_scope.md R7). -/
def Obligations.RomAndParamsFixed : Prop :=
  ∀ s t, step s = .next t → t.cart.rom = s.cart.rom ∧ t.cart.romLen = s.cart.romLen ∧ t.cart.ramLen = s.cart.ramLen ∧
    (t.cart.controller = .mbc0 ↔ s.cart.controller = .mbc0) ∧ t.params = s.params

/-- Which instructions can change a flag, `ime` or `halt` (10_state.md R25, R26): a flag only those of
`Instr.writesFlags`; `ime` only EI, DI and RETI; `halt` only HALT. Taking an interrupt writes no flag. -/
def Obligations.FlagsAndModeBits : Prop :=
  (∀ (i : Instr) (s t : State), i.wellFormed = true → exec i s = .next t →
    (¬ Instr.writesFlags i → t.cpu.f = s.cpu.f) ∧
    (t.cpu.ime ≠ s.cpu.ime → i = .ei ∨ i = .di ∨ i = .reti) ∧ (t.cpu.halt ≠ s.cpu.halt → i = .halt)) ∧
  ∀ (s : State) (i : Irq), (s.serviceInterrupt i).cpu.f = s.cpu.f

/-- Taking an interrupt (60_exceptions.md R315): with `ime` set and an enabled request, the step services the lowest one.
Its bit of IF, `ime` and `halt` are cleared, `PC` is pushed, `PC` becomes `0x40 + 8*i`, the step costs 20 cycles and
runs no instruction. Beyond that only the timer and its own request may change (whether the 20 cycles reach the timer
is a parameter, of which nothing is said here). -/
def Obligations.TakeInterrupt : Prop :=
  ∀ (s : State) (i : Irq), s.cpu.ime = true → (s.ie &&& s.iflag).getLsbD i.bit = true →
    (∀ k, k < i.bit → (s.ie &&& s.iflag).getLsbD k = false) →
    let s1 : State := { s with iflag := s.iflag &&& ~~~(BitVec.twoPow 5 i.bit) }
    ∃ u t, Pushes s.cpu.pc s1 u ∧
      u.cpu = { s.cpu with ime := false, halt := false, sp := s.cpu.sp - 2, pc := BitVec.ofNat 16 (0x40 + 8 * i.bit) } ∧
      s.cpuStep = .next (t, 20) ∧ t = { u with timer := t.timer, iflag := t.iflag } ∧
      ∀ k, k ≠ 2 → t.iflag.getLsbD k = u.iflag.getLsbD k

/-- A halted step (60_exceptions.md R317, R318): with `halt` set and no serviceable interrupt the timer advances by 4
and the step returns 4; no register changes, and `halt` is cleared exactly where an enabled request is pending
afterwards or TIMA overflowed. -/
def Obligations.HaltedStep : Prop :=
  ∀ s : State, s.cpu.halt = true → (s.cpu.ime = false ∨ s.ie &&& s.iflag = 0) →
    ∃ t, s.cpuStep = .next (t, 4) ∧ t.cpu = { s.cpu with halt := t.cpu.halt } ∧
      t = { State.timerAdvance 4 s with cpu := t.cpu } ∧
      (t.cpu.halt = false ↔ t.ie &&& t.iflag ≠ 0 ∨ (State.timerAdvance 4 s).cpu.halt = false)

/-- The timer in closed form (60_exceptions.md R331 to R334). `DivTimer` and DIV count the cycles by 256. While TAC bit 2
is clear `Timer` only grows; while it is set, TIMA is incremented once for every whole period, and each increment from
0xFF reloads TMA, requests interrupt 2 and clears `halt`. That `Timer` grows while TAC bit 2 is clear, as a natural
number without bound, is the spec's decision D14 (R332, 10_state.md R52; notes/assumptions/20); that the spec's loops
come to these quotients and remainders is this model's reading, DEDUCED (notes/assumptions/13). -/
def Obligations.TimerClosedForm : Prop :=
  ∀ (s : State) (d : Nat), let t := State.timerAdvance d s
    let p := match s.timer.tac.toNat % 4 with
      | 0 => 1024
      | 1 => 16
      | 2 => 64
      | _ => 256
    let n := (s.timer.timer + d) / p
    let toOverflow := 256 - s.timer.tima.toNat
    let overflows := s.timer.tac.toNat ≥ 4 ∧ n ≥ toOverflow
    t.timer.divTimer = (s.timer.divTimer + d) % 256 ∧
    t.timer.div.toNat = (s.timer.div.toNat + (s.timer.divTimer + d) / 256) % 256 ∧
    t.timer.timer = (if s.timer.tac.toNat ≥ 4 then (s.timer.timer + d) % p else s.timer.timer + d) ∧
    t.timer.tima.toNat =
      (if overflows then s.timer.tma.toNat + (n - toOverflow) % (256 - s.timer.tma.toNat)
       else if s.timer.tac.toNat ≥ 4 then s.timer.tima.toNat + n else s.timer.tima.toNat) ∧
    (∀ k, t.iflag.getLsbD k = (s.iflag.getLsbD k || (decide (k = 2) && decide overflows))) ∧
    t.cpu = { s.cpu with halt := s.cpu.halt && !decide overflows } ∧
    t = { s with cpu := t.cpu, iflag := t.iflag, timer := { t.timer with tma := s.timer.tma, tac := s.timer.tac } }

/-! ## Memory and registers on the bus (20_memory.md, 10_state.md) -/

/-- What each register reads as after a write of `v` to it (10_state.md R27 to R44), the `P1` reading of R28, and the
strobe of R30 and 20_memory.md R97. The absent bits that read 0, the reads of SC and DMA as 0xFF and the ignored
write of LY are the spec's decisions D10, D11 and D12 (notes/assumptions/20). -/
def Obligations.IoRegisters : Prop :=
  (∀ (s : State) (v : Byte),
    (∀ a : Word, a ∈ [0xFF01, 0xFF05, 0xFF06, 0xFF40, 0xFF42, 0xFF43, 0xFF45, 0xFF47, 0xFF48, 0xFF49, 0xFF4A, 0xFF4B] →
      (s.busWrite a v).busRead a = v) ∧
    (s.busWrite 0xFF04 v).busRead 0xFF04 = 0 ∧
    (s.busWrite 0xFF07 v).busRead 0xFF07 = v &&& 0x07 ∧ (s.busWrite 0xFF0F v).busRead 0xFF0F = v &&& 0x1F ∧
    (s.busWrite 0xFFFF v).busRead 0xFFFF = v &&& 0x1F ∧
    (s.busWrite 0xFF41 v).busRead 0xFF41 = (s.busRead 0xFF41 &&& 0x07) ||| (v &&& 0x78) ∧
    s.busWrite 0xFF44 v = s ∧ s.busRead 0xFF02 = 0xFF ∧ s.busRead 0xFF46 = 0xFF ∧
    s.busWrite 0xFF02 v = (if v = 0x81 then { s with dbgOut := s.dbgOut ++ [s.sb] } else s)) ∧
  ∀ (s : State) (v : Byte), let k := s.joypad.cur
    let p1 := (s.busWrite 0xFF00 v).busRead 0xFF00
    p1.toNat / 16 = v.toNat / 16 % 4 ∧
    ∀ j : Fin 4, p1.getLsbD j.val =
      !((!v.getLsbD 5 && [k.a, k.b, k.select, k.start][j]) || (!v.getLsbD 4 && [k.right, k.left, k.up, k.down][j]))

/-- RAM: a byte written is read back, and the echo reaches the same byte for reads and for writes (20_memory.md R72,
R73, R80); an address with no owner reads 0xFF and drops the write (R81, R92). -/
def Obligations.RamAndEcho : Prop :=
  (∀ (s : State) (a : Word) (v : Byte), State.wf s = true → s.plainRam a → (s.busWrite a v).busRead a = v) ∧
  (∀ (s : State) (k : Nat) (v : Byte), k < 0x1E00 →
    s.busRead (BitVec.ofNat 16 (0xE000 + k)) = s.busRead (BitVec.ofNat 16 (0xC000 + k)) ∧
    s.busWrite (BitVec.ofNat 16 (0xE000 + k)) v = s.busWrite (BitVec.ofNat 16 (0xC000 + k)) v) ∧
  ∀ (s : State) (a : Word) (v : Byte),
    (0xFEA0 ≤ a.toNat ∧ a.toNat ≤ 0xFEFF) ∨ a.toNat = 0xFF03 ∨ (0xFF08 ≤ a.toNat ∧ a.toNat ≤ 0xFF0E) ∨
      (0xFF10 ≤ a.toNat ∧ a.toNat ≤ 0xFF3F) ∨ (0xFF4C ≤ a.toNat ∧ a.toNat ≤ 0xFF7F) →
    s.busRead a = 0xFF ∧ s.busWrite a v = s

/-- The four control writes of MBC1 (20_memory.md R105 to R108): each sets its one register from the byte written and
changes nothing else. -/
def Obligations.BankControl : Prop :=
  ∀ (s : State) (r : Mbc1) (a : Word) (v : Byte), s.cart.controller = .mbc1 r → a.toNat ≤ 0x7FFF →
    ∃ r' : Mbc1, s.busWrite a v = { s with cart := { s.cart with controller := .mbc1 r' } } ∧
      r'.ramEnable = (if a.toNat ≤ 0x1FFF then decide (v.toNat % 16 = 0xA) else r.ramEnable) ∧
      r'.romBankLo.toNat = (if 0x2000 ≤ a.toNat ∧ a.toNat ≤ 0x3FFF then (if v.toNat % 32 = 0 then 1 else v.toNat % 32)
        else r.romBankLo.toNat) ∧
      r'.ramBank.toNat = (if 0x4000 ≤ a.toNat ∧ a.toNat ≤ 0x5FFF then v.toNat % 4 else r.ramBank.toNat) ∧
      r'.bankingMode = (if 0x6000 ≤ a.toNat then decide (v.toNat % 2 = 1) else r.bankingMode)

/-- What the cartridge ranges read and where cartridge RAM is written (20_memory.md R103, R104, R109 to R111). The
reduction modulo ROM_LEN, MBC0 without RAM and the RAM write are the spec's decisions D23, D24 and D25. -/
def Obligations.BankedAccess : Prop :=
  ∀ (s : State) (a : Word),
    (a.toNat ≤ 0x3FFF → s.busRead a = Memory.read s.cart.rom a.toNat) ∧
    (s.cart.controller = .mbc0 →
      (a.toNat ≤ 0x7FFF → s.busRead a = Memory.read s.cart.rom a.toNat ∧ ∀ v, s.busWrite a v = s) ∧
      (0xA000 ≤ a.toNat → a.toNat ≤ 0xBFFF → s.busRead a = 0xFF ∧ ∀ v, s.busWrite a v = s)) ∧
    ∀ r : Mbc1, s.cart.controller = .mbc1 r →
      (0x4000 ≤ a.toNat → a.toNat ≤ 0x7FFF →
        s.busRead a = Memory.read s.cart.rom
          (((r.romBankLo.toNat + (if r.bankingMode then 0 else 32 * r.ramBank.toNat)) * 0x4000 + (a.toNat - 0x4000)) %
            s.cart.romLen)) ∧
      (0xA000 ≤ a.toNat → a.toNat ≤ 0xBFFF →
        let at' := ((if r.bankingMode then r.ramBank.toNat else 0) * 0x2000 + (a.toNat - 0xA000)) % s.cart.ramLen
        (r.ramEnable = false ∨ s.cart.ramLen = 0 → s.busRead a = 0xFF ∧ ∀ v, s.busWrite a v = s) ∧
        (r.ramEnable = true → s.cart.ramLen ≠ 0 → s.busRead a = Memory.read s.cart.xram at' ∧
          ∀ v, s.busWrite a v = { s with cart := { s.cart with xram := Memory.write s.cart.xram at' v } }))

/-- OAM DMA (20_memory.md R96): a write of `v` to FF46 leaves in OAM the 160 bytes that the bus read at page `v` before
it, whatever the page, and changes nothing else. That every page is legal is the spec's decision D30. -/
def Obligations.OamDma : Prop :=
  ∀ (s : State) (v : Byte), State.wf s = true →
    let t := s.busWrite 0xFF46 v
    (∀ i, i < 160 → t.busRead (BitVec.ofNat 16 (0xFE00 + i)) = s.busRead (BitVec.ofNat 16 (v.toNat * 256 + i))) ∧
    t = { s with ppu := { s.ppu with oam := t.ppu.oam } }

/-! ## The picture unit and the joypad (60_exceptions.md) -/

/-- One call of the PPU (60_exceptions.md R341, R343 to R349): with the LCD off nothing changes; with it on, the counter
advances and wraps to 0 past row 153, LY is the row, the mode is the one the row and phase call for, the requests are
made on entry to a mode as the STAT bits allow, a row is drawn on entry to HBlank and at no other time, and STAT bit 2
tells whether the row is LYC. The mode numbers, the order of the tests and the level-triggered LYC request are the
spec's decisions D20, D16 and D17 (notes/assumptions/20). -/
def Obligations.PictureUnitCall : Prop :=
  ∀ (s : State) (d : Nat), let t := State.ppuRun d s
    let cycles := s.ppu.cycles + d
    let row := cycles / 456
    let phase := cycles % 456
    let shown := if row > 153 then 0 else row
    let mode := s.ppu.stat.toNat % 4
    let next := if row ≥ 144 then 1 else if phase < 80 then 2 else if phase < 252 then 3 else 0
    let entered := decide (mode ≠ next)
    let vblank := entered && decide (next = 1)
    let hblank := entered && decide (next = 0)
    let isLyc := decide (shown = s.ppu.lyc.toNat)
    let statReq := (entered && decide (next = 2) && s.ppu.stat.getLsbD 5) || (hblank && s.ppu.stat.getLsbD 3) ||
      (isLyc && s.ppu.stat.getLsbD 6 && !(s.params.lycIrqEdge && s.ppu.stat.getLsbD 2))
    (s.ppu.lcdc.getLsbD 7 = false → t = { s with frameReady := false }) ∧
    (s.ppu.lcdc.getLsbD 7 = true →
      t.ppu.cycles = (if row > 153 then 0 else cycles) ∧ t.ppu.ly.toNat = shown ∧ t.frameReady = vblank ∧
      (∀ k, t.iflag.getLsbD k = (s.iflag.getLsbD k || (decide (k = 0) && vblank) || (decide (k = 1) && statReq))) ∧
      t.ppu.stat.toNat = s.ppu.stat.toNat / 8 * 8 + 4 * isLyc.toNat + next ∧
      (hblank = false → t.ppu.fb = s.ppu.fb ∧ t.ppu.pri = s.ppu.pri) ∧
      (hblank = true → t.ppu.fb = (s.ppu.rasteriseRow row).fb) ∧
      t = { s with iflag := t.iflag, frameReady := t.frameReady,
                   ppu := { s.ppu with cycles := t.ppu.cycles, ly := t.ppu.ly, stat := t.ppu.stat, fb := t.ppu.fb,
                                       pri := t.ppu.pri } })

/-- A row as the rasteriser leaves it (60_exceptions.md R352 to R357, R361 to R364): no other row changes, and of pixel
`x` the value and the priority slot. Of the row's selected sprites, in their order, the first wins that has a colour
index other than 0 at `x` and is not held back by its BG-priority flag over a background index other than 0; the pixel
is the entry of OBP1 or OBP0, as its palette flag says, for its index. Where none wins it is BGP's entry for the
background's index. `look o` is the index sprite `o` has at `x`, from its OAM bytes and the tile row they name, 0 where
it does not reach. That both passes run whatever LCDC bits 0 and 1 are, and the window bits do nothing, is the spec's
decision D18 (R352, notes/assumptions/18); that sprite tiles lie from 8000 on whatever LCDC bit 4 is, its decision D19
(R361, notes/assumptions/20). -/
def Obligations.RasterRow : Prop :=
  ∀ (p : Ppu) (row x : Nat), Memory.wf p.fb = true → x < 160 →
    let q := p.rasteriseRow row
    let at' := row * 160 + x
    let px := (x + p.scx.toNat) % 256
    let py := (row + p.scy.toNat) % 256
    let id := Memory.read p.vram ((if p.lcdc.getLsbD 3 then 0x1C00 else 0x1800) + py / 8 * 32 + px / 8)
    let tile := if p.lcdc.getLsbD 4 then 16 * id.toNat else (0x1000 + 16 * id.toInt).toNat
    let index (a p7 : Nat) : Nat :=
      (Memory.read p.vram a).toNat / 2 ^ p7 % 2 + 2 * ((Memory.read p.vram (a + 1)).toNat / 2 ^ p7 % 2)
    let shade (pal : Byte) (c : Nat) : Nat := pal.toNat / 4 ^ c % 4
    let background := index (tile + 2 * (py % 8)) (7 - px % 8)
    let look (o : Sprite) : Nat :=
      let line := row + 16 - o.y.toNat
      let yflip := o.flags.getLsbD 6
      let number := if p.lcdc.getLsbD 2 then o.tile.toNat / 2 * 2 + (if (decide (line < 8)) = yflip then 1 else 0)
        else o.tile.toNat
      let tileRow := if yflip then 7 - line % 8 else line % 8
      let i := x + 8 - o.x.toNat
      if o.x.toNat ≤ x + 8 ∧ i < 8 then index (16 * number + 2 * tileRow) (if o.flags.getLsbD 5 then i else 7 - i) else 0
    let winner := (p.selected row).find? fun o =>
      decide (look o ≠ 0) && !(o.flags.getLsbD 7 && decide (background ≠ 0))
    (∀ k, k < row * 160 ∨ row * 160 + 160 ≤ k → Memory.read q.fb k = Memory.read p.fb k) ∧
    q.slot x = (match winner with
      | some _ => .sprite
      | none => if background = 0 then .undrawn else .background) ∧
    (Memory.read q.fb at').toNat = match winner with
      | some o => shade (if o.flags.getLsbD 4 then p.obp1 else p.obp0) (look o)
      | none => shade p.bgp background

/-- The sprites of a row (60_exceptions.md R358 to R360): at most 10, in ascending X, equal X in OAM order, each admitted
by its Y, and none left out that has a smaller X than one taken. -/
def Obligations.SpriteSelection : Prop :=
  ∀ (p : Ppu) (row : Nat), let h : Int := if p.lcdc.getLsbD 2 then 16 else 8
    let fits (n : Nat) : Prop := (p.sprite n).y.toNat - (16 : Int) ≤ row ∧ (row : Int) < (p.sprite n).y.toNat - 16 + h
    ∃ ns : List Nat, p.selected row = ns.map p.sprite ∧ ns.length ≤ 10 ∧ (∀ n ∈ ns, n < 40 ∧ fits n) ∧
      ns.Pairwise (fun m n => (p.sprite m).x.toNat < (p.sprite n).x.toNat ∨
        ((p.sprite m).x.toNat = (p.sprite n).x.toNat ∧ m < n)) ∧
      (∀ m, m < 40 → fits m → m ∉ ns → ns.length = 10 ∧
        ∀ n ∈ ns, (p.sprite n).x.toNat < (p.sprite m).x.toNat ∨
          ((p.sprite n).x.toNat = (p.sprite m).x.toNat ∧ n < m))

/-- `JoypadApply` (60_exceptions.md R372): the snapshot moves on, interrupt 4 is requested exactly where some key is
pressed now and was released before, and nothing else changes. -/
def Obligations.JoypadSnapshot : Prop :=
  ∀ (k : Keys) (s : State), let t := joypadApply k s
    let down (q : Keys) : List Bool := [q.up, q.down, q.left, q.right, q.a, q.b, q.start, q.select]
    t.joypad = { s.joypad with cur := k, prev := s.joypad.cur } ∧
    (∀ n, t.iflag.getLsbD n = (s.iflag.getLsbD n || (decide (n = 4) &&
      decide (∃ j : Fin 8, (down k)[j] = true ∧ (down s.joypad.cur)[j] = false)))) ∧
    t = { s with joypad := t.joypad, iflag := t.iflag }

end Statements
end

