-- ==== Sys2Proof/Laws/Memory.lean ====
section
/-! SUPPORT. The laws of `Memory`: reading back a write, writes elsewhere, and that every operation keeps the
canonical form and the bound on its offsets. -/

namespace Sys2Proof.Machine

@[simp] theorem Memory.read_nil (a : Nat) : Memory.read [] a = Config.unlistedByte := rfl

theorem Memory.wf_cons {k : Nat} {v : Byte} {m : Memory} :
    Memory.wf ((k, v) :: m) = true ↔
      v ≠ Config.unlistedByte ∧ (∀ c ∈ m, k < c.1) ∧ Memory.wf m = true := by
  simp [Memory.wf, and_assoc]

/-- An offset below every listed one is not listed. -/
theorem Memory.read_of_lt {m : Memory} {a : Nat} (h : ∀ c ∈ m, a < c.1) : Memory.read m a = Config.unlistedByte := by
  induction m with
  | nil => rfl
  | cons c m ih =>
    have h1 := h c (by simp)
    simp only [Memory.read]
    rw [if_neg (by omega)]
    exact ih fun d hd => h d (by simp [hd])

/-- A read after a write to the same offset gives the value written. -/
theorem Memory.read_write_same {m : Memory} (h : Memory.wf m = true) (a : Nat) (v : Byte) :
    Memory.read (Memory.write m a v) a = v := by
  induction m with
  | nil => by_cases hv : v = Config.unlistedByte <;> simp [Memory.write, Memory.read, hv]
  | cons c m ih =>
    obtain ⟨k, w⟩ := c
    obtain ⟨-, hlt, hm⟩ := Memory.wf_cons.1 h
    simp only [Memory.write]
    split
    · split
      · next hv =>
          rw [hv]
          refine Memory.read_of_lt fun d hd => ?_
          rcases List.mem_cons.1 hd with rfl | hd
          · assumption
          · have := hlt d hd; omega
      · simp [Memory.read]
    · split
      · next hk =>
          split
          · next hv => rw [hv]; exact Memory.read_of_lt fun d hd => by have := hlt d hd; omega
          · simp [Memory.read]
      · next hk => simp only [Memory.read]; rw [if_neg (by omega)]; exact ih hm

/-- A write leaves every other offset alone. -/
theorem Memory.read_write_other (m : Memory) {a b : Nat} (v : Byte) (h : b ≠ a) :
    Memory.read (Memory.write m a v) b = Memory.read m b := by
  induction m with
  | nil => simp only [Memory.write]; split <;> simp [Memory.read, h.symm]
  | cons c m ih =>
    obtain ⟨k, w⟩ := c
    simp only [Memory.write]
    split
    · split
      · rfl
      · simp [Memory.read, h.symm]
    · split
      · next hk =>
          subst hk
          split <;> simp [Memory.read, h.symm]
      · simp only [Memory.read, ih]

theorem Memory.mem_write {m : Memory} {a : Nat} {v : Byte} {c : Host.Cell} (h : c ∈ Memory.write m a v) :
    c ∈ m ∨ (c = (a, v) ∧ v ≠ Config.unlistedByte) := by
  induction m with
  | nil => simp only [Memory.write] at h; split at h <;> simp_all
  | cons d m ih =>
    obtain ⟨k, w⟩ := d
    simp only [Memory.write] at h
    split at h
    · split at h
      · exact .inl h
      · rcases List.mem_cons.1 h with rfl | h
        · exact .inr ⟨rfl, ‹_›⟩
        · exact .inl h
    · split at h
      · split at h
        · exact .inl (by simp [h])
        · rcases List.mem_cons.1 h with rfl | h
          · exact .inr ⟨rfl, ‹_›⟩
          · exact .inl (by simp [h])
      · rcases List.mem_cons.1 h with rfl | h
        · exact .inl (by simp)
        · rcases ih h with h | h
          · exact .inl (by simp [h])
          · exact .inr h

/-- A write keeps the canonical form. -/
theorem Memory.write_wf {m : Memory} (h : Memory.wf m = true) (a : Nat) (v : Byte) :
    Memory.wf (Memory.write m a v) = true := by
  induction m with
  | nil => by_cases hv : v = Config.unlistedByte <;> simp [Memory.write, Memory.wf, hv]
  | cons c m ih =>
    obtain ⟨k, w⟩ := c
    obtain ⟨hw, hlt, hm⟩ := Memory.wf_cons.1 h
    simp only [Memory.write]
    split
    · split
      · exact h
      · refine Memory.wf_cons.2 ⟨‹_›, fun d hd => ?_, h⟩
        rcases List.mem_cons.1 hd with rfl | hd
        · assumption
        · have := hlt d hd; omega
    · split
      · next hk =>
          subst hk
          split
          · exact hm
          · exact Memory.wf_cons.2 ⟨‹_›, hlt, hm⟩
      · refine Memory.wf_cons.2 ⟨hw, fun d hd => ?_, ih hm⟩
        rcases Memory.mem_write hd with hd | ⟨rfl, -⟩
        · exact hlt d hd
        · show k < a; omega

/-- A write below the bound keeps every offset below it. -/
theorem Memory.write_below {m : Memory} {size a : Nat} (h : Memory.below size m = true) (ha : a < size) (v : Byte) :
    Memory.below size (Memory.write m a v) = true := by
  simp only [Memory.below, List.all_eq_true, decide_eq_true_eq] at *
  intro c hc
  rcases Memory.mem_write hc with hc | ⟨rfl, -⟩
  · exact h c hc
  · exact ha

theorem Memory.write_sized {m : Memory} {size a : Nat} (h : Memory.sized size m = true) (ha : a < size) (v : Byte) :
    Memory.sized size (Memory.write m a v) = true := by
  simp only [Memory.sized, Bool.and_eq_true] at *
  exact ⟨Memory.write_wf h.1 a v, Memory.write_below h.2 ha v⟩

/-- A property of every listed byte survives a write of a byte that has it. -/
theorem Memory.write_all {m : Memory} {p : Byte → Bool} (h : m.all (fun c => p c.2) = true) (a : Nat) {v : Byte}
    (hv : p v = true) : (Memory.write m a v).all (fun c => p c.2) = true := by
  simp only [List.all_eq_true] at *
  intro c hc
  rcases Memory.mem_write hc with hc | ⟨rfl, -⟩
  · exact h c hc
  · exact hv

theorem Memory.ofBytes_wf (a : Nat) (vs : List Byte) : Memory.wf (Memory.ofBytes a vs) = true := by
  induction vs generalizing a with
  | nil => rfl
  | cons v vs ih => exact Memory.write_wf (ih (a + 1)) a v

theorem Memory.ofBytes_below (a : Nat) (vs : List Byte) {size : Nat} (h : a + vs.length ≤ size) :
    Memory.below size (Memory.ofBytes a vs) = true := by
  induction vs generalizing a with
  | nil => rfl
  | cons v vs ih =>
    simp only [List.length_cons] at h
    exact Memory.write_below (ih (a + 1) (by omega)) (by omega) v

/-- What a list of bytes reads as: entry `i` at offset `a + i`. -/
theorem Memory.read_ofBytes (a i : Nat) (vs : List Byte) (h : i < vs.length) :
    Memory.read (Memory.ofBytes a vs) (a + i) = vs[i] := by
  induction vs generalizing a i with
  | nil => simp at h
  | cons v vs ih =>
    cases i with
    | zero => exact Memory.read_write_same (Memory.ofBytes_wf _ _) a v
    | succ i =>
      have := ih (a + 1) i (by simpa using h)
      rw [show a + 1 + i = a + (i + 1) by omega] at this
      simp only [Memory.ofBytes, List.getElem_cons_succ]
      rw [Memory.read_write_other _ _ (by omega), this]

/-- Two canonical memories that read alike are equal. -/
theorem Memory.ext_of_read {m n : Memory} (hm : Memory.wf m = true) (hn : Memory.wf n = true)
    (h : ∀ a, Memory.read m a = Memory.read n a) : m = n := by
  induction m generalizing n with
  | nil =>
    cases n with
    | nil => rfl
    | cons c n =>
      obtain ⟨k, w⟩ := c
      have := h k
      simp only [Memory.read, if_true] at this
      exact absurd this.symm (Memory.wf_cons.1 hn).1
  | cons c m ih =>
    obtain ⟨k, v⟩ := c
    obtain ⟨hv, hk, hm'⟩ := Memory.wf_cons.1 hm
    cases n with
    | nil =>
      have := h k
      simp only [Memory.read, if_true] at this
      exact absurd this hv
    | cons d n =>
      obtain ⟨l, w⟩ := d
      obtain ⟨hw, hl, hn'⟩ := Memory.wf_cons.1 hn
      have hkl : k = l := by
        rcases Nat.lt_trichotomy k l with hlt | heq | hlt
        · have := h k
          rw [Memory.read_of_lt (m := (l, w) :: n) (a := k)] at this
          · simp only [Memory.read, if_true] at this; exact absurd this hv
          · intro c hc
            rcases List.mem_cons.1 hc with rfl | hc
            · exact hlt
            · have := hl c hc; omega
        · exact heq
        · have := h l
          rw [Memory.read_of_lt (m := (k, v) :: m) (a := l)] at this
          · simp only [Memory.read, if_true] at this; exact absurd this.symm hw
          · intro c hc
            rcases List.mem_cons.1 hc with rfl | hc
            · exact hlt
            · have := hk c hc; omega
      subst hkl
      have hvw : v = w := by simpa [Memory.read] using h k
      subst hvw
      congr 1
      refine ih hm' hn' fun a => ?_
      by_cases ha : k = a
      · subst ha; rw [Memory.read_of_lt hk, Memory.read_of_lt hl]
      · simpa [Memory.read, ha] using h a

end Sys2Proof.Machine
end

