-- ==== Sys2Proof/Laws/State.lean ====
section
/-! SUPPORT. One lemma per field per update of the state, and what the accessors of registers read after an update. -/

namespace Sys2Proof.Machine


/-! ### setBc -/

@[simp] theorem State.setBc_timer (s : State) (v : Word) : (s.setBc v).timer = s.timer := rfl
@[simp] theorem State.setBc_ppu (s : State) (v : Word) : (s.setBc v).ppu = s.ppu := rfl
@[simp] theorem State.setBc_cart (s : State) (v : Word) : (s.setBc v).cart = s.cart := rfl
@[simp] theorem State.setBc_joypad (s : State) (v : Word) : (s.setBc v).joypad = s.joypad := rfl
@[simp] theorem State.setBc_wram (s : State) (v : Word) : (s.setBc v).wram = s.wram := rfl
@[simp] theorem State.setBc_hram (s : State) (v : Word) : (s.setBc v).hram = s.hram := rfl
@[simp] theorem State.setBc_iflag (s : State) (v : Word) : (s.setBc v).iflag = s.iflag := rfl
@[simp] theorem State.setBc_ie (s : State) (v : Word) : (s.setBc v).ie = s.ie := rfl
@[simp] theorem State.setBc_sb (s : State) (v : Word) : (s.setBc v).sb = s.sb := rfl
@[simp] theorem State.setBc_dbgOut (s : State) (v : Word) : (s.setBc v).dbgOut = s.dbgOut := rfl
@[simp] theorem State.setBc_frameReady (s : State) (v : Word) : (s.setBc v).frameReady = s.frameReady := rfl
@[simp] theorem State.setBc_params (s : State) (v : Word) : (s.setBc v).params = s.params := rfl
@[simp] theorem State.setBc_cpu_a (s : State) (v : Word) : (s.setBc v).cpu.a = s.cpu.a := rfl
@[simp] theorem State.setBc_cpu_f (s : State) (v : Word) : (s.setBc v).cpu.f = s.cpu.f := rfl
@[simp] theorem State.setBc_cpu_b (s : State) (v : Word) : (s.setBc v).cpu.b = hiByte v := rfl
@[simp] theorem State.setBc_cpu_c (s : State) (v : Word) : (s.setBc v).cpu.c = loByte v := rfl
@[simp] theorem State.setBc_cpu_d (s : State) (v : Word) : (s.setBc v).cpu.d = s.cpu.d := rfl
@[simp] theorem State.setBc_cpu_e (s : State) (v : Word) : (s.setBc v).cpu.e = s.cpu.e := rfl
@[simp] theorem State.setBc_cpu_h (s : State) (v : Word) : (s.setBc v).cpu.h = s.cpu.h := rfl
@[simp] theorem State.setBc_cpu_l (s : State) (v : Word) : (s.setBc v).cpu.l = s.cpu.l := rfl
@[simp] theorem State.setBc_cpu_sp (s : State) (v : Word) : (s.setBc v).cpu.sp = s.cpu.sp := rfl
@[simp] theorem State.setBc_cpu_pc (s : State) (v : Word) : (s.setBc v).cpu.pc = s.cpu.pc := rfl
@[simp] theorem State.setBc_cpu_halt (s : State) (v : Word) : (s.setBc v).cpu.halt = s.cpu.halt := rfl
@[simp] theorem State.setBc_cpu_ime (s : State) (v : Word) : (s.setBc v).cpu.ime = s.cpu.ime := rfl
@[simp] theorem State.setBc_busRead (s : State) (v : Word) (x : Word) : (s.setBc v).busRead x = s.busRead x := rfl

/-! ### setDe -/

@[simp] theorem State.setDe_timer (s : State) (v : Word) : (s.setDe v).timer = s.timer := rfl
@[simp] theorem State.setDe_ppu (s : State) (v : Word) : (s.setDe v).ppu = s.ppu := rfl
@[simp] theorem State.setDe_cart (s : State) (v : Word) : (s.setDe v).cart = s.cart := rfl
@[simp] theorem State.setDe_joypad (s : State) (v : Word) : (s.setDe v).joypad = s.joypad := rfl
@[simp] theorem State.setDe_wram (s : State) (v : Word) : (s.setDe v).wram = s.wram := rfl
@[simp] theorem State.setDe_hram (s : State) (v : Word) : (s.setDe v).hram = s.hram := rfl
@[simp] theorem State.setDe_iflag (s : State) (v : Word) : (s.setDe v).iflag = s.iflag := rfl
@[simp] theorem State.setDe_ie (s : State) (v : Word) : (s.setDe v).ie = s.ie := rfl
@[simp] theorem State.setDe_sb (s : State) (v : Word) : (s.setDe v).sb = s.sb := rfl
@[simp] theorem State.setDe_dbgOut (s : State) (v : Word) : (s.setDe v).dbgOut = s.dbgOut := rfl
@[simp] theorem State.setDe_frameReady (s : State) (v : Word) : (s.setDe v).frameReady = s.frameReady := rfl
@[simp] theorem State.setDe_params (s : State) (v : Word) : (s.setDe v).params = s.params := rfl
@[simp] theorem State.setDe_cpu_a (s : State) (v : Word) : (s.setDe v).cpu.a = s.cpu.a := rfl
@[simp] theorem State.setDe_cpu_f (s : State) (v : Word) : (s.setDe v).cpu.f = s.cpu.f := rfl
@[simp] theorem State.setDe_cpu_b (s : State) (v : Word) : (s.setDe v).cpu.b = s.cpu.b := rfl
@[simp] theorem State.setDe_cpu_c (s : State) (v : Word) : (s.setDe v).cpu.c = s.cpu.c := rfl
@[simp] theorem State.setDe_cpu_d (s : State) (v : Word) : (s.setDe v).cpu.d = hiByte v := rfl
@[simp] theorem State.setDe_cpu_e (s : State) (v : Word) : (s.setDe v).cpu.e = loByte v := rfl
@[simp] theorem State.setDe_cpu_h (s : State) (v : Word) : (s.setDe v).cpu.h = s.cpu.h := rfl
@[simp] theorem State.setDe_cpu_l (s : State) (v : Word) : (s.setDe v).cpu.l = s.cpu.l := rfl
@[simp] theorem State.setDe_cpu_sp (s : State) (v : Word) : (s.setDe v).cpu.sp = s.cpu.sp := rfl
@[simp] theorem State.setDe_cpu_pc (s : State) (v : Word) : (s.setDe v).cpu.pc = s.cpu.pc := rfl
@[simp] theorem State.setDe_cpu_halt (s : State) (v : Word) : (s.setDe v).cpu.halt = s.cpu.halt := rfl
@[simp] theorem State.setDe_cpu_ime (s : State) (v : Word) : (s.setDe v).cpu.ime = s.cpu.ime := rfl
@[simp] theorem State.setDe_busRead (s : State) (v : Word) (x : Word) : (s.setDe v).busRead x = s.busRead x := rfl

/-! ### setHl -/

@[simp] theorem State.setHl_timer (s : State) (v : Word) : (s.setHl v).timer = s.timer := rfl
@[simp] theorem State.setHl_ppu (s : State) (v : Word) : (s.setHl v).ppu = s.ppu := rfl
@[simp] theorem State.setHl_cart (s : State) (v : Word) : (s.setHl v).cart = s.cart := rfl
@[simp] theorem State.setHl_joypad (s : State) (v : Word) : (s.setHl v).joypad = s.joypad := rfl
@[simp] theorem State.setHl_wram (s : State) (v : Word) : (s.setHl v).wram = s.wram := rfl
@[simp] theorem State.setHl_hram (s : State) (v : Word) : (s.setHl v).hram = s.hram := rfl
@[simp] theorem State.setHl_iflag (s : State) (v : Word) : (s.setHl v).iflag = s.iflag := rfl
@[simp] theorem State.setHl_ie (s : State) (v : Word) : (s.setHl v).ie = s.ie := rfl
@[simp] theorem State.setHl_sb (s : State) (v : Word) : (s.setHl v).sb = s.sb := rfl
@[simp] theorem State.setHl_dbgOut (s : State) (v : Word) : (s.setHl v).dbgOut = s.dbgOut := rfl
@[simp] theorem State.setHl_frameReady (s : State) (v : Word) : (s.setHl v).frameReady = s.frameReady := rfl
@[simp] theorem State.setHl_params (s : State) (v : Word) : (s.setHl v).params = s.params := rfl
@[simp] theorem State.setHl_cpu_a (s : State) (v : Word) : (s.setHl v).cpu.a = s.cpu.a := rfl
@[simp] theorem State.setHl_cpu_f (s : State) (v : Word) : (s.setHl v).cpu.f = s.cpu.f := rfl
@[simp] theorem State.setHl_cpu_b (s : State) (v : Word) : (s.setHl v).cpu.b = s.cpu.b := rfl
@[simp] theorem State.setHl_cpu_c (s : State) (v : Word) : (s.setHl v).cpu.c = s.cpu.c := rfl
@[simp] theorem State.setHl_cpu_d (s : State) (v : Word) : (s.setHl v).cpu.d = s.cpu.d := rfl
@[simp] theorem State.setHl_cpu_e (s : State) (v : Word) : (s.setHl v).cpu.e = s.cpu.e := rfl
@[simp] theorem State.setHl_cpu_h (s : State) (v : Word) : (s.setHl v).cpu.h = hiByte v := rfl
@[simp] theorem State.setHl_cpu_l (s : State) (v : Word) : (s.setHl v).cpu.l = loByte v := rfl
@[simp] theorem State.setHl_cpu_sp (s : State) (v : Word) : (s.setHl v).cpu.sp = s.cpu.sp := rfl
@[simp] theorem State.setHl_cpu_pc (s : State) (v : Word) : (s.setHl v).cpu.pc = s.cpu.pc := rfl
@[simp] theorem State.setHl_cpu_halt (s : State) (v : Word) : (s.setHl v).cpu.halt = s.cpu.halt := rfl
@[simp] theorem State.setHl_cpu_ime (s : State) (v : Word) : (s.setHl v).cpu.ime = s.cpu.ime := rfl
@[simp] theorem State.setHl_busRead (s : State) (v : Word) (x : Word) : (s.setHl v).busRead x = s.busRead x := rfl

/-! ### setSp -/

@[simp] theorem State.setSp_timer (s : State) (v : Word) : (s.setSp v).timer = s.timer := rfl
@[simp] theorem State.setSp_ppu (s : State) (v : Word) : (s.setSp v).ppu = s.ppu := rfl
@[simp] theorem State.setSp_cart (s : State) (v : Word) : (s.setSp v).cart = s.cart := rfl
@[simp] theorem State.setSp_joypad (s : State) (v : Word) : (s.setSp v).joypad = s.joypad := rfl
@[simp] theorem State.setSp_wram (s : State) (v : Word) : (s.setSp v).wram = s.wram := rfl
@[simp] theorem State.setSp_hram (s : State) (v : Word) : (s.setSp v).hram = s.hram := rfl
@[simp] theorem State.setSp_iflag (s : State) (v : Word) : (s.setSp v).iflag = s.iflag := rfl
@[simp] theorem State.setSp_ie (s : State) (v : Word) : (s.setSp v).ie = s.ie := rfl
@[simp] theorem State.setSp_sb (s : State) (v : Word) : (s.setSp v).sb = s.sb := rfl
@[simp] theorem State.setSp_dbgOut (s : State) (v : Word) : (s.setSp v).dbgOut = s.dbgOut := rfl
@[simp] theorem State.setSp_frameReady (s : State) (v : Word) : (s.setSp v).frameReady = s.frameReady := rfl
@[simp] theorem State.setSp_params (s : State) (v : Word) : (s.setSp v).params = s.params := rfl
@[simp] theorem State.setSp_cpu_a (s : State) (v : Word) : (s.setSp v).cpu.a = s.cpu.a := rfl
@[simp] theorem State.setSp_cpu_f (s : State) (v : Word) : (s.setSp v).cpu.f = s.cpu.f := rfl
@[simp] theorem State.setSp_cpu_b (s : State) (v : Word) : (s.setSp v).cpu.b = s.cpu.b := rfl
@[simp] theorem State.setSp_cpu_c (s : State) (v : Word) : (s.setSp v).cpu.c = s.cpu.c := rfl
@[simp] theorem State.setSp_cpu_d (s : State) (v : Word) : (s.setSp v).cpu.d = s.cpu.d := rfl
@[simp] theorem State.setSp_cpu_e (s : State) (v : Word) : (s.setSp v).cpu.e = s.cpu.e := rfl
@[simp] theorem State.setSp_cpu_h (s : State) (v : Word) : (s.setSp v).cpu.h = s.cpu.h := rfl
@[simp] theorem State.setSp_cpu_l (s : State) (v : Word) : (s.setSp v).cpu.l = s.cpu.l := rfl
@[simp] theorem State.setSp_cpu_sp (s : State) (v : Word) : (s.setSp v).cpu.sp = v := rfl
@[simp] theorem State.setSp_cpu_pc (s : State) (v : Word) : (s.setSp v).cpu.pc = s.cpu.pc := rfl
@[simp] theorem State.setSp_cpu_halt (s : State) (v : Word) : (s.setSp v).cpu.halt = s.cpu.halt := rfl
@[simp] theorem State.setSp_cpu_ime (s : State) (v : Word) : (s.setSp v).cpu.ime = s.cpu.ime := rfl
@[simp] theorem State.setSp_busRead (s : State) (v : Word) (x : Word) : (s.setSp v).busRead x = s.busRead x := rfl

/-! ### setPc -/

@[simp] theorem State.setPc_timer (s : State) (v : Word) : (s.setPc v).timer = s.timer := rfl
@[simp] theorem State.setPc_ppu (s : State) (v : Word) : (s.setPc v).ppu = s.ppu := rfl
@[simp] theorem State.setPc_cart (s : State) (v : Word) : (s.setPc v).cart = s.cart := rfl
@[simp] theorem State.setPc_joypad (s : State) (v : Word) : (s.setPc v).joypad = s.joypad := rfl
@[simp] theorem State.setPc_wram (s : State) (v : Word) : (s.setPc v).wram = s.wram := rfl
@[simp] theorem State.setPc_hram (s : State) (v : Word) : (s.setPc v).hram = s.hram := rfl
@[simp] theorem State.setPc_iflag (s : State) (v : Word) : (s.setPc v).iflag = s.iflag := rfl
@[simp] theorem State.setPc_ie (s : State) (v : Word) : (s.setPc v).ie = s.ie := rfl
@[simp] theorem State.setPc_sb (s : State) (v : Word) : (s.setPc v).sb = s.sb := rfl
@[simp] theorem State.setPc_dbgOut (s : State) (v : Word) : (s.setPc v).dbgOut = s.dbgOut := rfl
@[simp] theorem State.setPc_frameReady (s : State) (v : Word) : (s.setPc v).frameReady = s.frameReady := rfl
@[simp] theorem State.setPc_params (s : State) (v : Word) : (s.setPc v).params = s.params := rfl
@[simp] theorem State.setPc_cpu_a (s : State) (v : Word) : (s.setPc v).cpu.a = s.cpu.a := rfl
@[simp] theorem State.setPc_cpu_f (s : State) (v : Word) : (s.setPc v).cpu.f = s.cpu.f := rfl
@[simp] theorem State.setPc_cpu_b (s : State) (v : Word) : (s.setPc v).cpu.b = s.cpu.b := rfl
@[simp] theorem State.setPc_cpu_c (s : State) (v : Word) : (s.setPc v).cpu.c = s.cpu.c := rfl
@[simp] theorem State.setPc_cpu_d (s : State) (v : Word) : (s.setPc v).cpu.d = s.cpu.d := rfl
@[simp] theorem State.setPc_cpu_e (s : State) (v : Word) : (s.setPc v).cpu.e = s.cpu.e := rfl
@[simp] theorem State.setPc_cpu_h (s : State) (v : Word) : (s.setPc v).cpu.h = s.cpu.h := rfl
@[simp] theorem State.setPc_cpu_l (s : State) (v : Word) : (s.setPc v).cpu.l = s.cpu.l := rfl
@[simp] theorem State.setPc_cpu_sp (s : State) (v : Word) : (s.setPc v).cpu.sp = s.cpu.sp := rfl
@[simp] theorem State.setPc_cpu_pc (s : State) (v : Word) : (s.setPc v).cpu.pc = v := rfl
@[simp] theorem State.setPc_cpu_halt (s : State) (v : Word) : (s.setPc v).cpu.halt = s.cpu.halt := rfl
@[simp] theorem State.setPc_cpu_ime (s : State) (v : Word) : (s.setPc v).cpu.ime = s.cpu.ime := rfl
@[simp] theorem State.setPc_busRead (s : State) (v : Word) (x : Word) : (s.setPc v).busRead x = s.busRead x := rfl

/-! ### setFlags -/

@[simp] theorem State.setFlags_timer (s : State) (f : Flags) : (s.setFlags f).timer = s.timer := rfl
@[simp] theorem State.setFlags_ppu (s : State) (f : Flags) : (s.setFlags f).ppu = s.ppu := rfl
@[simp] theorem State.setFlags_cart (s : State) (f : Flags) : (s.setFlags f).cart = s.cart := rfl
@[simp] theorem State.setFlags_joypad (s : State) (f : Flags) : (s.setFlags f).joypad = s.joypad := rfl
@[simp] theorem State.setFlags_wram (s : State) (f : Flags) : (s.setFlags f).wram = s.wram := rfl
@[simp] theorem State.setFlags_hram (s : State) (f : Flags) : (s.setFlags f).hram = s.hram := rfl
@[simp] theorem State.setFlags_iflag (s : State) (f : Flags) : (s.setFlags f).iflag = s.iflag := rfl
@[simp] theorem State.setFlags_ie (s : State) (f : Flags) : (s.setFlags f).ie = s.ie := rfl
@[simp] theorem State.setFlags_sb (s : State) (f : Flags) : (s.setFlags f).sb = s.sb := rfl
@[simp] theorem State.setFlags_dbgOut (s : State) (f : Flags) : (s.setFlags f).dbgOut = s.dbgOut := rfl
@[simp] theorem State.setFlags_frameReady (s : State) (f : Flags) : (s.setFlags f).frameReady = s.frameReady := rfl
@[simp] theorem State.setFlags_params (s : State) (f : Flags) : (s.setFlags f).params = s.params := rfl
@[simp] theorem State.setFlags_cpu_a (s : State) (f : Flags) : (s.setFlags f).cpu.a = s.cpu.a := rfl
@[simp] theorem State.setFlags_cpu_f (s : State) (f : Flags) : (s.setFlags f).cpu.f = f := rfl
@[simp] theorem State.setFlags_cpu_b (s : State) (f : Flags) : (s.setFlags f).cpu.b = s.cpu.b := rfl
@[simp] theorem State.setFlags_cpu_c (s : State) (f : Flags) : (s.setFlags f).cpu.c = s.cpu.c := rfl
@[simp] theorem State.setFlags_cpu_d (s : State) (f : Flags) : (s.setFlags f).cpu.d = s.cpu.d := rfl
@[simp] theorem State.setFlags_cpu_e (s : State) (f : Flags) : (s.setFlags f).cpu.e = s.cpu.e := rfl
@[simp] theorem State.setFlags_cpu_h (s : State) (f : Flags) : (s.setFlags f).cpu.h = s.cpu.h := rfl
@[simp] theorem State.setFlags_cpu_l (s : State) (f : Flags) : (s.setFlags f).cpu.l = s.cpu.l := rfl
@[simp] theorem State.setFlags_cpu_sp (s : State) (f : Flags) : (s.setFlags f).cpu.sp = s.cpu.sp := rfl
@[simp] theorem State.setFlags_cpu_pc (s : State) (f : Flags) : (s.setFlags f).cpu.pc = s.cpu.pc := rfl
@[simp] theorem State.setFlags_cpu_halt (s : State) (f : Flags) : (s.setFlags f).cpu.halt = s.cpu.halt := rfl
@[simp] theorem State.setFlags_cpu_ime (s : State) (f : Flags) : (s.setFlags f).cpu.ime = s.cpu.ime := rfl
@[simp] theorem State.setFlags_busRead (s : State) (f : Flags) (x : Word) : (s.setFlags f).busRead x = s.busRead x := rfl

/-! ### setHalt -/

@[simp] theorem State.setHalt_timer (s : State) (b : Bool) : (s.setHalt b).timer = s.timer := rfl
@[simp] theorem State.setHalt_ppu (s : State) (b : Bool) : (s.setHalt b).ppu = s.ppu := rfl
@[simp] theorem State.setHalt_cart (s : State) (b : Bool) : (s.setHalt b).cart = s.cart := rfl
@[simp] theorem State.setHalt_joypad (s : State) (b : Bool) : (s.setHalt b).joypad = s.joypad := rfl
@[simp] theorem State.setHalt_wram (s : State) (b : Bool) : (s.setHalt b).wram = s.wram := rfl
@[simp] theorem State.setHalt_hram (s : State) (b : Bool) : (s.setHalt b).hram = s.hram := rfl
@[simp] theorem State.setHalt_iflag (s : State) (b : Bool) : (s.setHalt b).iflag = s.iflag := rfl
@[simp] theorem State.setHalt_ie (s : State) (b : Bool) : (s.setHalt b).ie = s.ie := rfl
@[simp] theorem State.setHalt_sb (s : State) (b : Bool) : (s.setHalt b).sb = s.sb := rfl
@[simp] theorem State.setHalt_dbgOut (s : State) (b : Bool) : (s.setHalt b).dbgOut = s.dbgOut := rfl
@[simp] theorem State.setHalt_frameReady (s : State) (b : Bool) : (s.setHalt b).frameReady = s.frameReady := rfl
@[simp] theorem State.setHalt_params (s : State) (b : Bool) : (s.setHalt b).params = s.params := rfl
@[simp] theorem State.setHalt_cpu_a (s : State) (b : Bool) : (s.setHalt b).cpu.a = s.cpu.a := rfl
@[simp] theorem State.setHalt_cpu_f (s : State) (b : Bool) : (s.setHalt b).cpu.f = s.cpu.f := rfl
@[simp] theorem State.setHalt_cpu_b (s : State) (b : Bool) : (s.setHalt b).cpu.b = s.cpu.b := rfl
@[simp] theorem State.setHalt_cpu_c (s : State) (b : Bool) : (s.setHalt b).cpu.c = s.cpu.c := rfl
@[simp] theorem State.setHalt_cpu_d (s : State) (b : Bool) : (s.setHalt b).cpu.d = s.cpu.d := rfl
@[simp] theorem State.setHalt_cpu_e (s : State) (b : Bool) : (s.setHalt b).cpu.e = s.cpu.e := rfl
@[simp] theorem State.setHalt_cpu_h (s : State) (b : Bool) : (s.setHalt b).cpu.h = s.cpu.h := rfl
@[simp] theorem State.setHalt_cpu_l (s : State) (b : Bool) : (s.setHalt b).cpu.l = s.cpu.l := rfl
@[simp] theorem State.setHalt_cpu_sp (s : State) (b : Bool) : (s.setHalt b).cpu.sp = s.cpu.sp := rfl
@[simp] theorem State.setHalt_cpu_pc (s : State) (b : Bool) : (s.setHalt b).cpu.pc = s.cpu.pc := rfl
@[simp] theorem State.setHalt_cpu_halt (s : State) (b : Bool) : (s.setHalt b).cpu.halt = b := rfl
@[simp] theorem State.setHalt_cpu_ime (s : State) (b : Bool) : (s.setHalt b).cpu.ime = s.cpu.ime := rfl
@[simp] theorem State.setHalt_busRead (s : State) (b : Bool) (x : Word) : (s.setHalt b).busRead x = s.busRead x := rfl

/-! ### setIme -/

@[simp] theorem State.setIme_timer (s : State) (b : Bool) : (s.setIme b).timer = s.timer := rfl
@[simp] theorem State.setIme_ppu (s : State) (b : Bool) : (s.setIme b).ppu = s.ppu := rfl
@[simp] theorem State.setIme_cart (s : State) (b : Bool) : (s.setIme b).cart = s.cart := rfl
@[simp] theorem State.setIme_joypad (s : State) (b : Bool) : (s.setIme b).joypad = s.joypad := rfl
@[simp] theorem State.setIme_wram (s : State) (b : Bool) : (s.setIme b).wram = s.wram := rfl
@[simp] theorem State.setIme_hram (s : State) (b : Bool) : (s.setIme b).hram = s.hram := rfl
@[simp] theorem State.setIme_iflag (s : State) (b : Bool) : (s.setIme b).iflag = s.iflag := rfl
@[simp] theorem State.setIme_ie (s : State) (b : Bool) : (s.setIme b).ie = s.ie := rfl
@[simp] theorem State.setIme_sb (s : State) (b : Bool) : (s.setIme b).sb = s.sb := rfl
@[simp] theorem State.setIme_dbgOut (s : State) (b : Bool) : (s.setIme b).dbgOut = s.dbgOut := rfl
@[simp] theorem State.setIme_frameReady (s : State) (b : Bool) : (s.setIme b).frameReady = s.frameReady := rfl
@[simp] theorem State.setIme_params (s : State) (b : Bool) : (s.setIme b).params = s.params := rfl
@[simp] theorem State.setIme_cpu_a (s : State) (b : Bool) : (s.setIme b).cpu.a = s.cpu.a := rfl
@[simp] theorem State.setIme_cpu_f (s : State) (b : Bool) : (s.setIme b).cpu.f = s.cpu.f := rfl
@[simp] theorem State.setIme_cpu_b (s : State) (b : Bool) : (s.setIme b).cpu.b = s.cpu.b := rfl
@[simp] theorem State.setIme_cpu_c (s : State) (b : Bool) : (s.setIme b).cpu.c = s.cpu.c := rfl
@[simp] theorem State.setIme_cpu_d (s : State) (b : Bool) : (s.setIme b).cpu.d = s.cpu.d := rfl
@[simp] theorem State.setIme_cpu_e (s : State) (b : Bool) : (s.setIme b).cpu.e = s.cpu.e := rfl
@[simp] theorem State.setIme_cpu_h (s : State) (b : Bool) : (s.setIme b).cpu.h = s.cpu.h := rfl
@[simp] theorem State.setIme_cpu_l (s : State) (b : Bool) : (s.setIme b).cpu.l = s.cpu.l := rfl
@[simp] theorem State.setIme_cpu_sp (s : State) (b : Bool) : (s.setIme b).cpu.sp = s.cpu.sp := rfl
@[simp] theorem State.setIme_cpu_pc (s : State) (b : Bool) : (s.setIme b).cpu.pc = s.cpu.pc := rfl
@[simp] theorem State.setIme_cpu_halt (s : State) (b : Bool) : (s.setIme b).cpu.halt = s.cpu.halt := rfl
@[simp] theorem State.setIme_cpu_ime (s : State) (b : Bool) : (s.setIme b).cpu.ime = b := rfl
@[simp] theorem State.setIme_busRead (s : State) (b : Bool) (x : Word) : (s.setIme b).busRead x = s.busRead x := rfl

/-! ### setReg -/

@[simp] theorem State.setReg_timer (s : State) (r : Reg8) (v : Byte) : (s.setReg r v).timer = s.timer := by cases r <;> rfl
@[simp] theorem State.setReg_ppu (s : State) (r : Reg8) (v : Byte) : (s.setReg r v).ppu = s.ppu := by cases r <;> rfl
@[simp] theorem State.setReg_cart (s : State) (r : Reg8) (v : Byte) : (s.setReg r v).cart = s.cart := by cases r <;> rfl
@[simp] theorem State.setReg_joypad (s : State) (r : Reg8) (v : Byte) : (s.setReg r v).joypad = s.joypad := by cases r <;> rfl
@[simp] theorem State.setReg_wram (s : State) (r : Reg8) (v : Byte) : (s.setReg r v).wram = s.wram := by cases r <;> rfl
@[simp] theorem State.setReg_hram (s : State) (r : Reg8) (v : Byte) : (s.setReg r v).hram = s.hram := by cases r <;> rfl
@[simp] theorem State.setReg_iflag (s : State) (r : Reg8) (v : Byte) : (s.setReg r v).iflag = s.iflag := by cases r <;> rfl
@[simp] theorem State.setReg_ie (s : State) (r : Reg8) (v : Byte) : (s.setReg r v).ie = s.ie := by cases r <;> rfl
@[simp] theorem State.setReg_sb (s : State) (r : Reg8) (v : Byte) : (s.setReg r v).sb = s.sb := by cases r <;> rfl
@[simp] theorem State.setReg_dbgOut (s : State) (r : Reg8) (v : Byte) : (s.setReg r v).dbgOut = s.dbgOut := by cases r <;> rfl
@[simp] theorem State.setReg_frameReady (s : State) (r : Reg8) (v : Byte) : (s.setReg r v).frameReady = s.frameReady := by cases r <;> rfl
@[simp] theorem State.setReg_params (s : State) (r : Reg8) (v : Byte) : (s.setReg r v).params = s.params := by cases r <;> rfl
@[simp] theorem State.setReg_cpu_f (s : State) (r : Reg8) (v : Byte) : (s.setReg r v).cpu.f = s.cpu.f := by
  cases r <;> rfl
@[simp] theorem State.setReg_cpu_sp (s : State) (r : Reg8) (v : Byte) : (s.setReg r v).cpu.sp = s.cpu.sp := by
  cases r <;> rfl
@[simp] theorem State.setReg_cpu_pc (s : State) (r : Reg8) (v : Byte) : (s.setReg r v).cpu.pc = s.cpu.pc := by
  cases r <;> rfl
@[simp] theorem State.setReg_cpu_halt (s : State) (r : Reg8) (v : Byte) : (s.setReg r v).cpu.halt = s.cpu.halt := by
  cases r <;> rfl
@[simp] theorem State.setReg_cpu_ime (s : State) (r : Reg8) (v : Byte) : (s.setReg r v).cpu.ime = s.cpu.ime := by
  cases r <;> rfl
@[simp] theorem State.setReg_busRead (s : State) (r : Reg8) (v : Byte) (x : Word) :
    (s.setReg r v).busRead x = s.busRead x := by cases r <;> rfl

/-! ### setPair -/

@[simp] theorem State.setPair_timer (s : State) (p : Pair) (v : Word) : (s.setPair p v).timer = s.timer := by cases p <;> rfl
@[simp] theorem State.setPair_ppu (s : State) (p : Pair) (v : Word) : (s.setPair p v).ppu = s.ppu := by cases p <;> rfl
@[simp] theorem State.setPair_cart (s : State) (p : Pair) (v : Word) : (s.setPair p v).cart = s.cart := by cases p <;> rfl
@[simp] theorem State.setPair_joypad (s : State) (p : Pair) (v : Word) : (s.setPair p v).joypad = s.joypad := by cases p <;> rfl
@[simp] theorem State.setPair_wram (s : State) (p : Pair) (v : Word) : (s.setPair p v).wram = s.wram := by cases p <;> rfl
@[simp] theorem State.setPair_hram (s : State) (p : Pair) (v : Word) : (s.setPair p v).hram = s.hram := by cases p <;> rfl
@[simp] theorem State.setPair_iflag (s : State) (p : Pair) (v : Word) : (s.setPair p v).iflag = s.iflag := by cases p <;> rfl
@[simp] theorem State.setPair_ie (s : State) (p : Pair) (v : Word) : (s.setPair p v).ie = s.ie := by cases p <;> rfl
@[simp] theorem State.setPair_sb (s : State) (p : Pair) (v : Word) : (s.setPair p v).sb = s.sb := by cases p <;> rfl
@[simp] theorem State.setPair_dbgOut (s : State) (p : Pair) (v : Word) : (s.setPair p v).dbgOut = s.dbgOut := by cases p <;> rfl
@[simp] theorem State.setPair_frameReady (s : State) (p : Pair) (v : Word) : (s.setPair p v).frameReady = s.frameReady := by cases p <;> rfl
@[simp] theorem State.setPair_params (s : State) (p : Pair) (v : Word) : (s.setPair p v).params = s.params := by cases p <;> rfl
@[simp] theorem State.setPair_cpu_a (s : State) (p : Pair) (v : Word) : (s.setPair p v).cpu.a = s.cpu.a := by
  cases p <;> rfl
@[simp] theorem State.setPair_cpu_f (s : State) (p : Pair) (v : Word) : (s.setPair p v).cpu.f = s.cpu.f := by
  cases p <;> rfl
@[simp] theorem State.setPair_cpu_pc (s : State) (p : Pair) (v : Word) : (s.setPair p v).cpu.pc = s.cpu.pc := by
  cases p <;> rfl
@[simp] theorem State.setPair_cpu_halt (s : State) (p : Pair) (v : Word) : (s.setPair p v).cpu.halt = s.cpu.halt := by
  cases p <;> rfl
@[simp] theorem State.setPair_cpu_ime (s : State) (p : Pair) (v : Word) : (s.setPair p v).cpu.ime = s.cpu.ime := by
  cases p <;> rfl
@[simp] theorem State.setPair_busRead (s : State) (p : Pair) (v : Word) (x : Word) :
    (s.setPair p v).busRead x = s.busRead x := by cases p <;> rfl

/-! ### setStackPair -/

@[simp] theorem State.setStackPair_timer (s : State) (p : StackPair) (v : Word) : (s.setStackPair p v).timer = s.timer := by cases p <;> rfl
@[simp] theorem State.setStackPair_ppu (s : State) (p : StackPair) (v : Word) : (s.setStackPair p v).ppu = s.ppu := by cases p <;> rfl
@[simp] theorem State.setStackPair_cart (s : State) (p : StackPair) (v : Word) : (s.setStackPair p v).cart = s.cart := by cases p <;> rfl
@[simp] theorem State.setStackPair_joypad (s : State) (p : StackPair) (v : Word) : (s.setStackPair p v).joypad = s.joypad := by cases p <;> rfl
@[simp] theorem State.setStackPair_wram (s : State) (p : StackPair) (v : Word) : (s.setStackPair p v).wram = s.wram := by cases p <;> rfl
@[simp] theorem State.setStackPair_hram (s : State) (p : StackPair) (v : Word) : (s.setStackPair p v).hram = s.hram := by cases p <;> rfl
@[simp] theorem State.setStackPair_iflag (s : State) (p : StackPair) (v : Word) : (s.setStackPair p v).iflag = s.iflag := by cases p <;> rfl
@[simp] theorem State.setStackPair_ie (s : State) (p : StackPair) (v : Word) : (s.setStackPair p v).ie = s.ie := by cases p <;> rfl
@[simp] theorem State.setStackPair_sb (s : State) (p : StackPair) (v : Word) : (s.setStackPair p v).sb = s.sb := by cases p <;> rfl
@[simp] theorem State.setStackPair_dbgOut (s : State) (p : StackPair) (v : Word) : (s.setStackPair p v).dbgOut = s.dbgOut := by cases p <;> rfl
@[simp] theorem State.setStackPair_frameReady (s : State) (p : StackPair) (v : Word) : (s.setStackPair p v).frameReady = s.frameReady := by cases p <;> rfl
@[simp] theorem State.setStackPair_params (s : State) (p : StackPair) (v : Word) : (s.setStackPair p v).params = s.params := by cases p <;> rfl
@[simp] theorem State.setStackPair_cpu_sp (s : State) (p : StackPair) (v : Word) : (s.setStackPair p v).cpu.sp = s.cpu.sp := by
  cases p <;> rfl
@[simp] theorem State.setStackPair_cpu_pc (s : State) (p : StackPair) (v : Word) : (s.setStackPair p v).cpu.pc = s.cpu.pc := by
  cases p <;> rfl
@[simp] theorem State.setStackPair_cpu_halt (s : State) (p : StackPair) (v : Word) : (s.setStackPair p v).cpu.halt = s.cpu.halt := by
  cases p <;> rfl
@[simp] theorem State.setStackPair_cpu_ime (s : State) (p : StackPair) (v : Word) : (s.setStackPair p v).cpu.ime = s.cpu.ime := by
  cases p <;> rfl
@[simp] theorem State.setStackPair_busRead (s : State) (p : StackPair) (v : Word) (x : Word) :
    (s.setStackPair p v).busRead x = s.busRead x := by cases p <;> rfl

/-! ### Registers and pairs after an update -/

@[simp] theorem State.reg_setReg_same (s : State) (r : Reg8) (v : Byte) : (s.setReg r v).reg r = v := by cases r <;> rfl

theorem State.reg_setReg_other (s : State) {q r : Reg8} (v : Byte) (h : q ≠ r) : (s.setReg r v).reg q = s.reg q := by
  cases q <;> cases r <;> first | rfl | exact absurd rfl h

@[simp] theorem join_hiByte_loByte (v : Word) : join (hiByte v) (loByte v) = v := by
  unfold join hiByte loByte
  exact BitVec.eq_of_getLsbD_eq fun i hi => by
    rw [BitVec.getLsbD_append]
    split
    · simp [*]
    · have h : i - 8 < 8 := by omega
      have h2 : 8 + (i - 8) = i := by omega
      simp [h, h2]

@[simp] theorem hiByte_join (hi lo : Byte) : hiByte (join hi lo) = hi := by
  unfold join hiByte
  exact BitVec.eq_of_getLsbD_eq fun i h => by
    rw [BitVec.getLsbD_extractLsb', BitVec.getLsbD_append]
    simp [h]

@[simp] theorem loByte_join (hi lo : Byte) : loByte (join hi lo) = lo := by
  unfold join loByte
  exact BitVec.eq_of_getLsbD_eq fun i h => by
    rw [BitVec.getLsbD_extractLsb', BitVec.getLsbD_append]
    simp [h]

/-! ### Bytes and words as numbers -/

theorem join_toNat (hi lo : Byte) : (join hi lo).toNat = 256 * hi.toNat + lo.toNat := by
  have h := lo.isLt
  show (hi ++ lo).toNat = _
  rw [BitVec.toNat_append, ← Nat.shiftLeft_add_eq_or_of_lt h, Nat.shiftLeft_eq]
  omega

theorem hiByte_toNat (v : Word) : (hiByte v).toNat = v.toNat / 256 := by
  have h := v.isLt
  simp only [hiByte, BitVec.extractLsb'_toNat, Nat.shiftRight_eq_div_pow]
  omega

theorem loByte_toNat (v : Word) : (loByte v).toNat = v.toNat % 256 := by
  simp [loByte, BitVec.extractLsb'_toNat]

theorem highPage_eq (n : Byte) : highPage n = 0xFF00 + n.setWidth 16 := by
  have := n.isLt
  apply BitVec.eq_of_toNat_eq
  rw [highPage, join_toNat]
  simp [BitVec.toNat_add]
  omega

theorem sext16_eq (n : Byte) :
    sext16 n = if n.toNat < 128 then n.setWidth 16 else n.setWidth 16 + 0xFF00 := by
  revert n; decide

/-- A pair holds what was written to it (10_state.md R22). -/
@[simp] theorem State.pair_setPair_same (s : State) (p : Pair) (v : Word) : (s.setPair p v).pair p = v := by
  cases p <;> first | rfl | exact join_hiByte_loByte v

/-- Writing one pair leaves the others. -/
theorem State.pair_setPair_other (s : State) {p q : Pair} (v : Word) (h : q ≠ p) :
    (s.setPair p v).pair q = s.pair q := by
  cases p <;> cases q <;> first | rfl | exact absurd rfl h

/-- The low nibble of the byte view of `F` is 0 (R21). -/
@[simp] theorem Flags.toByte_low (f : Flags) : f.toByte &&& 0x0F = 0 := by
  obtain ⟨z, n, h, c⟩ := f
  revert z n h c
  decide

/-- The flags come back from their byte (R21). -/
@[simp] theorem Flags.ofByte_toByte (f : Flags) : Flags.ofByte f.toByte = f := by
  obtain ⟨z, n, h, c⟩ := f
  revert z n h c
  decide

/-- A stack pair other than `AF` holds what was written to it; `AF` loses the low nibble of `F` (R22). -/
theorem State.stackPair_setStackPair (s : State) (p : StackPair) (v : Word) :
    (s.setStackPair p v).stackPair p =
      if p = .af then join (hiByte v) (Flags.ofByte (loByte v)).toByte else v := by
  cases p
  case af => rfl
  all_goals exact join_hiByte_loByte v

/-! ### Updates outside the CPU -/

@[simp] theorem State.requestIrq_cpu (s : State) (i : Irq) : (s.requestIrq i).cpu = s.cpu := rfl
@[simp] theorem State.requestIrq_timer (s : State) (i : Irq) : (s.requestIrq i).timer = s.timer := rfl
@[simp] theorem State.requestIrq_ppu (s : State) (i : Irq) : (s.requestIrq i).ppu = s.ppu := rfl
@[simp] theorem State.requestIrq_cart (s : State) (i : Irq) : (s.requestIrq i).cart = s.cart := rfl
@[simp] theorem State.requestIrq_joypad (s : State) (i : Irq) : (s.requestIrq i).joypad = s.joypad := rfl
@[simp] theorem State.requestIrq_wram (s : State) (i : Irq) : (s.requestIrq i).wram = s.wram := rfl
@[simp] theorem State.requestIrq_hram (s : State) (i : Irq) : (s.requestIrq i).hram = s.hram := rfl
@[simp] theorem State.requestIrq_ie (s : State) (i : Irq) : (s.requestIrq i).ie = s.ie := rfl
@[simp] theorem State.requestIrq_sb (s : State) (i : Irq) : (s.requestIrq i).sb = s.sb := rfl
@[simp] theorem State.requestIrq_dbgOut (s : State) (i : Irq) : (s.requestIrq i).dbgOut = s.dbgOut := rfl
@[simp] theorem State.requestIrq_frameReady (s : State) (i : Irq) : (s.requestIrq i).frameReady = s.frameReady := rfl
@[simp] theorem State.requestIrq_params (s : State) (i : Irq) : (s.requestIrq i).params = s.params := rfl
@[simp] theorem State.requestIrq_iflag (s : State) (i : Irq) : (s.requestIrq i).iflag = s.iflag ||| i.mask := rfl
@[simp] theorem State.setOam_cpu (s : State) (i : Nat) (v : Byte) : (s.setOam i v).cpu = s.cpu := rfl
@[simp] theorem State.setOam_timer (s : State) (i : Nat) (v : Byte) : (s.setOam i v).timer = s.timer := rfl
@[simp] theorem State.setOam_cart (s : State) (i : Nat) (v : Byte) : (s.setOam i v).cart = s.cart := rfl
@[simp] theorem State.setOam_joypad (s : State) (i : Nat) (v : Byte) : (s.setOam i v).joypad = s.joypad := rfl
@[simp] theorem State.setOam_wram (s : State) (i : Nat) (v : Byte) : (s.setOam i v).wram = s.wram := rfl
@[simp] theorem State.setOam_hram (s : State) (i : Nat) (v : Byte) : (s.setOam i v).hram = s.hram := rfl
@[simp] theorem State.setOam_iflag (s : State) (i : Nat) (v : Byte) : (s.setOam i v).iflag = s.iflag := rfl
@[simp] theorem State.setOam_ie (s : State) (i : Nat) (v : Byte) : (s.setOam i v).ie = s.ie := rfl
@[simp] theorem State.setOam_sb (s : State) (i : Nat) (v : Byte) : (s.setOam i v).sb = s.sb := rfl
@[simp] theorem State.setOam_dbgOut (s : State) (i : Nat) (v : Byte) : (s.setOam i v).dbgOut = s.dbgOut := rfl
@[simp] theorem State.setOam_frameReady (s : State) (i : Nat) (v : Byte) : (s.setOam i v).frameReady = s.frameReady := rfl
@[simp] theorem State.setOam_params (s : State) (i : Nat) (v : Byte) : (s.setOam i v).params = s.params := rfl
@[simp] theorem State.setOam_ppu_lcdc (s : State) (i : Nat) (v : Byte) : (s.setOam i v).ppu.lcdc = s.ppu.lcdc := rfl
@[simp] theorem State.setOam_ppu_stat (s : State) (i : Nat) (v : Byte) : (s.setOam i v).ppu.stat = s.ppu.stat := rfl
@[simp] theorem State.setOam_ppu_scy (s : State) (i : Nat) (v : Byte) : (s.setOam i v).ppu.scy = s.ppu.scy := rfl
@[simp] theorem State.setOam_ppu_scx (s : State) (i : Nat) (v : Byte) : (s.setOam i v).ppu.scx = s.ppu.scx := rfl
@[simp] theorem State.setOam_ppu_ly (s : State) (i : Nat) (v : Byte) : (s.setOam i v).ppu.ly = s.ppu.ly := rfl
@[simp] theorem State.setOam_ppu_lyc (s : State) (i : Nat) (v : Byte) : (s.setOam i v).ppu.lyc = s.ppu.lyc := rfl
@[simp] theorem State.setOam_ppu_bgp (s : State) (i : Nat) (v : Byte) : (s.setOam i v).ppu.bgp = s.ppu.bgp := rfl
@[simp] theorem State.setOam_ppu_obp0 (s : State) (i : Nat) (v : Byte) : (s.setOam i v).ppu.obp0 = s.ppu.obp0 := rfl
@[simp] theorem State.setOam_ppu_obp1 (s : State) (i : Nat) (v : Byte) : (s.setOam i v).ppu.obp1 = s.ppu.obp1 := rfl
@[simp] theorem State.setOam_ppu_wy (s : State) (i : Nat) (v : Byte) : (s.setOam i v).ppu.wy = s.ppu.wy := rfl
@[simp] theorem State.setOam_ppu_wx (s : State) (i : Nat) (v : Byte) : (s.setOam i v).ppu.wx = s.ppu.wx := rfl
@[simp] theorem State.setOam_ppu_cycles (s : State) (i : Nat) (v : Byte) : (s.setOam i v).ppu.cycles = s.ppu.cycles := rfl
@[simp] theorem State.setOam_ppu_vram (s : State) (i : Nat) (v : Byte) : (s.setOam i v).ppu.vram = s.ppu.vram := rfl
@[simp] theorem State.setOam_ppu_oam (s : State) (i : Nat) (v : Byte) : (s.setOam i v).ppu.oam = Memory.write s.ppu.oam i v := rfl
@[simp] theorem State.setOam_ppu_fb (s : State) (i : Nat) (v : Byte) : (s.setOam i v).ppu.fb = s.ppu.fb := rfl
@[simp] theorem State.setOam_ppu_pri (s : State) (i : Nat) (v : Byte) : (s.setOam i v).ppu.pri = s.ppu.pri := rfl
@[simp] theorem State.setMode_cpu (s : State) (m : PpuMode) : (s.setMode m).cpu = s.cpu := rfl
@[simp] theorem State.setMode_timer (s : State) (m : PpuMode) : (s.setMode m).timer = s.timer := rfl
@[simp] theorem State.setMode_cart (s : State) (m : PpuMode) : (s.setMode m).cart = s.cart := rfl
@[simp] theorem State.setMode_joypad (s : State) (m : PpuMode) : (s.setMode m).joypad = s.joypad := rfl
@[simp] theorem State.setMode_wram (s : State) (m : PpuMode) : (s.setMode m).wram = s.wram := rfl
@[simp] theorem State.setMode_hram (s : State) (m : PpuMode) : (s.setMode m).hram = s.hram := rfl
@[simp] theorem State.setMode_iflag (s : State) (m : PpuMode) : (s.setMode m).iflag = s.iflag := rfl
@[simp] theorem State.setMode_ie (s : State) (m : PpuMode) : (s.setMode m).ie = s.ie := rfl
@[simp] theorem State.setMode_sb (s : State) (m : PpuMode) : (s.setMode m).sb = s.sb := rfl
@[simp] theorem State.setMode_dbgOut (s : State) (m : PpuMode) : (s.setMode m).dbgOut = s.dbgOut := rfl
@[simp] theorem State.setMode_frameReady (s : State) (m : PpuMode) : (s.setMode m).frameReady = s.frameReady := rfl
@[simp] theorem State.setMode_params (s : State) (m : PpuMode) : (s.setMode m).params = s.params := rfl
@[simp] theorem State.setMode_ppu_lcdc (s : State) (m : PpuMode) : (s.setMode m).ppu.lcdc = s.ppu.lcdc := rfl
@[simp] theorem State.setMode_ppu_stat (s : State) (m : PpuMode) : (s.setMode m).ppu.stat = (s.ppu.stat &&& 0x7C) ||| m.code.setWidth 7 := rfl
@[simp] theorem State.setMode_ppu_scy (s : State) (m : PpuMode) : (s.setMode m).ppu.scy = s.ppu.scy := rfl
@[simp] theorem State.setMode_ppu_scx (s : State) (m : PpuMode) : (s.setMode m).ppu.scx = s.ppu.scx := rfl
@[simp] theorem State.setMode_ppu_ly (s : State) (m : PpuMode) : (s.setMode m).ppu.ly = s.ppu.ly := rfl
@[simp] theorem State.setMode_ppu_lyc (s : State) (m : PpuMode) : (s.setMode m).ppu.lyc = s.ppu.lyc := rfl
@[simp] theorem State.setMode_ppu_bgp (s : State) (m : PpuMode) : (s.setMode m).ppu.bgp = s.ppu.bgp := rfl
@[simp] theorem State.setMode_ppu_obp0 (s : State) (m : PpuMode) : (s.setMode m).ppu.obp0 = s.ppu.obp0 := rfl
@[simp] theorem State.setMode_ppu_obp1 (s : State) (m : PpuMode) : (s.setMode m).ppu.obp1 = s.ppu.obp1 := rfl
@[simp] theorem State.setMode_ppu_wy (s : State) (m : PpuMode) : (s.setMode m).ppu.wy = s.ppu.wy := rfl
@[simp] theorem State.setMode_ppu_wx (s : State) (m : PpuMode) : (s.setMode m).ppu.wx = s.ppu.wx := rfl
@[simp] theorem State.setMode_ppu_cycles (s : State) (m : PpuMode) : (s.setMode m).ppu.cycles = s.ppu.cycles := rfl
@[simp] theorem State.setMode_ppu_vram (s : State) (m : PpuMode) : (s.setMode m).ppu.vram = s.ppu.vram := rfl
@[simp] theorem State.setMode_ppu_oam (s : State) (m : PpuMode) : (s.setMode m).ppu.oam = s.ppu.oam := rfl
@[simp] theorem State.setMode_ppu_fb (s : State) (m : PpuMode) : (s.setMode m).ppu.fb = s.ppu.fb := rfl
@[simp] theorem State.setMode_ppu_pri (s : State) (m : PpuMode) : (s.setMode m).ppu.pri = s.ppu.pri := rfl
@[simp] theorem State.setLycFlag_cpu (s : State) (b : Bool) : (s.setLycFlag b).cpu = s.cpu := rfl
@[simp] theorem State.setLycFlag_timer (s : State) (b : Bool) : (s.setLycFlag b).timer = s.timer := rfl
@[simp] theorem State.setLycFlag_cart (s : State) (b : Bool) : (s.setLycFlag b).cart = s.cart := rfl
@[simp] theorem State.setLycFlag_joypad (s : State) (b : Bool) : (s.setLycFlag b).joypad = s.joypad := rfl
@[simp] theorem State.setLycFlag_wram (s : State) (b : Bool) : (s.setLycFlag b).wram = s.wram := rfl
@[simp] theorem State.setLycFlag_hram (s : State) (b : Bool) : (s.setLycFlag b).hram = s.hram := rfl
@[simp] theorem State.setLycFlag_iflag (s : State) (b : Bool) : (s.setLycFlag b).iflag = s.iflag := rfl
@[simp] theorem State.setLycFlag_ie (s : State) (b : Bool) : (s.setLycFlag b).ie = s.ie := rfl
@[simp] theorem State.setLycFlag_sb (s : State) (b : Bool) : (s.setLycFlag b).sb = s.sb := rfl
@[simp] theorem State.setLycFlag_dbgOut (s : State) (b : Bool) : (s.setLycFlag b).dbgOut = s.dbgOut := rfl
@[simp] theorem State.setLycFlag_frameReady (s : State) (b : Bool) : (s.setLycFlag b).frameReady = s.frameReady := rfl
@[simp] theorem State.setLycFlag_params (s : State) (b : Bool) : (s.setLycFlag b).params = s.params := rfl
@[simp] theorem State.setLycFlag_ppu_lcdc (s : State) (b : Bool) : (s.setLycFlag b).ppu.lcdc = s.ppu.lcdc := rfl
@[simp] theorem State.setLycFlag_ppu_stat (s : State) (b : Bool) : (s.setLycFlag b).ppu.stat = (s.ppu.stat &&& 0x7B) ||| ((BitVec.ofBool b).setWidth 7 <<< 2) := rfl
@[simp] theorem State.setLycFlag_ppu_scy (s : State) (b : Bool) : (s.setLycFlag b).ppu.scy = s.ppu.scy := rfl
@[simp] theorem State.setLycFlag_ppu_scx (s : State) (b : Bool) : (s.setLycFlag b).ppu.scx = s.ppu.scx := rfl
@[simp] theorem State.setLycFlag_ppu_ly (s : State) (b : Bool) : (s.setLycFlag b).ppu.ly = s.ppu.ly := rfl
@[simp] theorem State.setLycFlag_ppu_lyc (s : State) (b : Bool) : (s.setLycFlag b).ppu.lyc = s.ppu.lyc := rfl
@[simp] theorem State.setLycFlag_ppu_bgp (s : State) (b : Bool) : (s.setLycFlag b).ppu.bgp = s.ppu.bgp := rfl
@[simp] theorem State.setLycFlag_ppu_obp0 (s : State) (b : Bool) : (s.setLycFlag b).ppu.obp0 = s.ppu.obp0 := rfl
@[simp] theorem State.setLycFlag_ppu_obp1 (s : State) (b : Bool) : (s.setLycFlag b).ppu.obp1 = s.ppu.obp1 := rfl
@[simp] theorem State.setLycFlag_ppu_wy (s : State) (b : Bool) : (s.setLycFlag b).ppu.wy = s.ppu.wy := rfl
@[simp] theorem State.setLycFlag_ppu_wx (s : State) (b : Bool) : (s.setLycFlag b).ppu.wx = s.ppu.wx := rfl
@[simp] theorem State.setLycFlag_ppu_cycles (s : State) (b : Bool) : (s.setLycFlag b).ppu.cycles = s.ppu.cycles := rfl
@[simp] theorem State.setLycFlag_ppu_vram (s : State) (b : Bool) : (s.setLycFlag b).ppu.vram = s.ppu.vram := rfl
@[simp] theorem State.setLycFlag_ppu_oam (s : State) (b : Bool) : (s.setLycFlag b).ppu.oam = s.ppu.oam := rfl
@[simp] theorem State.setLycFlag_ppu_fb (s : State) (b : Bool) : (s.setLycFlag b).ppu.fb = s.ppu.fb := rfl
@[simp] theorem State.setLycFlag_ppu_pri (s : State) (b : Bool) : (s.setLycFlag b).ppu.pri = s.ppu.pri := rfl
@[simp] theorem Ppu.setFb_lcdc (p : Ppu) (row x : Nat) (v : Byte) : (p.setFb row x v).lcdc = p.lcdc := rfl
@[simp] theorem Ppu.setFb_stat (p : Ppu) (row x : Nat) (v : Byte) : (p.setFb row x v).stat = p.stat := rfl
@[simp] theorem Ppu.setFb_scy (p : Ppu) (row x : Nat) (v : Byte) : (p.setFb row x v).scy = p.scy := rfl
@[simp] theorem Ppu.setFb_scx (p : Ppu) (row x : Nat) (v : Byte) : (p.setFb row x v).scx = p.scx := rfl
@[simp] theorem Ppu.setFb_ly (p : Ppu) (row x : Nat) (v : Byte) : (p.setFb row x v).ly = p.ly := rfl
@[simp] theorem Ppu.setFb_lyc (p : Ppu) (row x : Nat) (v : Byte) : (p.setFb row x v).lyc = p.lyc := rfl
@[simp] theorem Ppu.setFb_bgp (p : Ppu) (row x : Nat) (v : Byte) : (p.setFb row x v).bgp = p.bgp := rfl
@[simp] theorem Ppu.setFb_obp0 (p : Ppu) (row x : Nat) (v : Byte) : (p.setFb row x v).obp0 = p.obp0 := rfl
@[simp] theorem Ppu.setFb_obp1 (p : Ppu) (row x : Nat) (v : Byte) : (p.setFb row x v).obp1 = p.obp1 := rfl
@[simp] theorem Ppu.setFb_wy (p : Ppu) (row x : Nat) (v : Byte) : (p.setFb row x v).wy = p.wy := rfl
@[simp] theorem Ppu.setFb_wx (p : Ppu) (row x : Nat) (v : Byte) : (p.setFb row x v).wx = p.wx := rfl
@[simp] theorem Ppu.setFb_cycles (p : Ppu) (row x : Nat) (v : Byte) : (p.setFb row x v).cycles = p.cycles := rfl
@[simp] theorem Ppu.setFb_vram (p : Ppu) (row x : Nat) (v : Byte) : (p.setFb row x v).vram = p.vram := rfl
@[simp] theorem Ppu.setFb_oam (p : Ppu) (row x : Nat) (v : Byte) : (p.setFb row x v).oam = p.oam := rfl
@[simp] theorem Ppu.setFb_fb (p : Ppu) (row x : Nat) (v : Byte) : (p.setFb row x v).fb = Memory.write p.fb (row * 160 + x) v := rfl
@[simp] theorem Ppu.setFb_pri (p : Ppu) (row x : Nat) (v : Byte) : (p.setFb row x v).pri = p.pri := rfl
@[simp] theorem Ppu.setSlot_lcdc (p : Ppu) (x : Nat) (v : PriSlot) : (p.setSlot x v).lcdc = p.lcdc := rfl
@[simp] theorem Ppu.setSlot_stat (p : Ppu) (x : Nat) (v : PriSlot) : (p.setSlot x v).stat = p.stat := rfl
@[simp] theorem Ppu.setSlot_scy (p : Ppu) (x : Nat) (v : PriSlot) : (p.setSlot x v).scy = p.scy := rfl
@[simp] theorem Ppu.setSlot_scx (p : Ppu) (x : Nat) (v : PriSlot) : (p.setSlot x v).scx = p.scx := rfl
@[simp] theorem Ppu.setSlot_ly (p : Ppu) (x : Nat) (v : PriSlot) : (p.setSlot x v).ly = p.ly := rfl
@[simp] theorem Ppu.setSlot_lyc (p : Ppu) (x : Nat) (v : PriSlot) : (p.setSlot x v).lyc = p.lyc := rfl
@[simp] theorem Ppu.setSlot_bgp (p : Ppu) (x : Nat) (v : PriSlot) : (p.setSlot x v).bgp = p.bgp := rfl
@[simp] theorem Ppu.setSlot_obp0 (p : Ppu) (x : Nat) (v : PriSlot) : (p.setSlot x v).obp0 = p.obp0 := rfl
@[simp] theorem Ppu.setSlot_obp1 (p : Ppu) (x : Nat) (v : PriSlot) : (p.setSlot x v).obp1 = p.obp1 := rfl
@[simp] theorem Ppu.setSlot_wy (p : Ppu) (x : Nat) (v : PriSlot) : (p.setSlot x v).wy = p.wy := rfl
@[simp] theorem Ppu.setSlot_wx (p : Ppu) (x : Nat) (v : PriSlot) : (p.setSlot x v).wx = p.wx := rfl
@[simp] theorem Ppu.setSlot_cycles (p : Ppu) (x : Nat) (v : PriSlot) : (p.setSlot x v).cycles = p.cycles := rfl
@[simp] theorem Ppu.setSlot_vram (p : Ppu) (x : Nat) (v : PriSlot) : (p.setSlot x v).vram = p.vram := rfl
@[simp] theorem Ppu.setSlot_oam (p : Ppu) (x : Nat) (v : PriSlot) : (p.setSlot x v).oam = p.oam := rfl
@[simp] theorem Ppu.setSlot_fb (p : Ppu) (x : Nat) (v : PriSlot) : (p.setSlot x v).fb = p.fb := rfl
@[simp] theorem Ppu.setSlot_pri (p : Ppu) (x : Nat) (v : PriSlot) : (p.setSlot x v).pri = p.pri.setIfInBounds x v := rfl

/-- The defaults of the reset parameters are the values of `State.reset`. -/
theorem State.powerOn_eq (cart : Cartridge) (params : Params) :
    State.powerOn cart params = { State.reset with cart := cart, params := params } := rfl

end Sys2Proof.Machine
end

