-- ==== Sys2Proof/Laws/Bus.lean ====
section
/-! SUPPORT. What a bus write and a register write can change, and how the stack operations act on the CPU. -/

namespace Sys2Proof.Machine

/-! ## Reads do not look at the CPU, writes do not touch it -/

@[simp] theorem State.busRead_setCpu (s : State) (c : Cpu) (a : Word) : ({ s with cpu := c } : State).busRead a = s.busRead a := rfl

/-- OAM DMA changes OAM alone (20_memory.md R96). -/
theorem State.oamDma_eq (s : State) (v : Byte) :
    s.oamDma v = { s with ppu := { s.ppu with oam := (s.oamDma v).ppu.oam } } := by
  unfold State.oamDma
  generalize List.range 160 = l
  induction l using List.reverseRecOn with
  | nil => rfl
  | append_singleton l i ih =>
    rw [List.foldl_append]
    simp only [List.foldl_cons, List.foldl_nil]
    generalize List.foldl _ s l = t at ih ⊢
    rw [ih]
    rfl

theorem State.oamDma_setCpu (s : State) (c : Cpu) (v : Byte) :
    ({ s with cpu := c } : State).oamDma v = { s.oamDma v with cpu := c } := by
  unfold State.oamDma
  generalize List.range 160 = l
  induction l using List.reverseRecOn with
  | nil => rfl
  | append_singleton l i ih =>
    rw [List.foldl_append, List.foldl_append, ih]
    rfl

/-- A register write does not look at the CPU and leaves it alone. -/
theorem State.ioRegWrite_setCpu (s : State) (c : Cpu) (r : IoReg) (v : Byte) :
    ({ s with cpu := c } : State).ioRegWrite r v = { s.ioRegWrite r v with cpu := c } := by
  cases r
  case sc => simp only [State.ioRegWrite]; split <;> rfl
  case dma => exact State.oamDma_setCpu s c v
  all_goals rfl

theorem State.ioWrite_setCpu (s : State) (c : Cpu) (a : Nat) (v : Byte) :
    ({ s with cpu := c } : State).ioWrite a v = { s.ioWrite a v with cpu := c } := by
  unfold State.ioWrite
  split
  · exact State.ioRegWrite_setCpu s c _ v
  · rfl

/-- A bus write does not look at the CPU and leaves it alone. -/
theorem State.busWrite_setCpu (s : State) (c : Cpu) (a : Word) (v : Byte) :
    ({ s with cpu := c } : State).busWrite a v = { s.busWrite a v with cpu := c } := by
  simp only [State.busWrite]
  repeat' (split; · first | rfl | exact State.ioWrite_setCpu s c _ v)
  rfl

@[simp] theorem State.busWrite_cpu (s : State) (a : Word) (v : Byte) : (s.busWrite a v).cpu = s.cpu := by
  have h := congrArg (fun t : State => t.cpu) (State.busWrite_setCpu s s.cpu a v)
  exact h

/-! ## What no bus write changes -/

/-- Fields that no register write touches. -/
theorem State.ioRegWrite_fixed (s : State) (r : IoReg) (v : Byte) :
    (s.ioRegWrite r v).cart = s.cart ∧ (s.ioRegWrite r v).wram = s.wram ∧ (s.ioRegWrite r v).hram = s.hram ∧
    (s.ioRegWrite r v).ie = s.ie ∧ (s.ioRegWrite r v).frameReady = s.frameReady ∧
    (s.ioRegWrite r v).params = s.params := by
  cases r
  case sc => simp only [State.ioRegWrite]; split <;> simp
  case dma => simp only [State.ioRegWrite]; rw [State.oamDma_eq]; simp
  all_goals simp [State.ioRegWrite]

theorem State.ioWrite_fixed (s : State) (a : Nat) (v : Byte) :
    (s.ioWrite a v).cart = s.cart ∧ (s.ioWrite a v).wram = s.wram ∧ (s.ioWrite a v).hram = s.hram ∧
    (s.ioWrite a v).ie = s.ie ∧ (s.ioWrite a v).frameReady = s.frameReady ∧ (s.ioWrite a v).params = s.params := by
  unfold State.ioWrite
  split
  · exact State.ioRegWrite_fixed s _ v
  · simp

@[simp] theorem State.busWrite_params (s : State) (a : Word) (v : Byte) : (s.busWrite a v).params = s.params := by
  simp only [State.busWrite]
  repeat' (split; · first | rfl | exact (State.ioWrite_fixed s _ v).2.2.2.2.2)
  rfl

@[simp] theorem State.busWrite_frameReady (s : State) (a : Word) (v : Byte) :
    (s.busWrite a v).frameReady = s.frameReady := by
  simp only [State.busWrite]
  repeat' (split; · first | rfl | exact (State.ioWrite_fixed s _ v).2.2.2.2.1)
  rfl

/-- A control write changes the controller's registers alone (R103, R105 to R108). -/
theorem Cartridge.write_fixed (c : Cartridge) (a : Nat) (v : Byte) :
    (c.write a v).rom = c.rom ∧ (c.write a v).romLen = c.romLen ∧ (c.write a v).ramLen = c.ramLen ∧
    (c.write a v).xram = c.xram := by
  unfold Cartridge.write
  split <;> simp

/-- A write to cartridge RAM changes its bytes alone (R104, R111). -/
theorem Cartridge.ramWrite_fixed (c : Cartridge) (a : Nat) (v : Byte) :
    (c.ramWrite a v).rom = c.rom ∧ (c.ramWrite a v).romLen = c.romLen ∧ (c.ramWrite a v).ramLen = c.ramLen ∧
    (c.ramWrite a v).controller = c.controller := by
  unfold Cartridge.ramWrite
  split <;> simp

/-- No bus write changes the image, its length or the length of cartridge RAM (R102). -/
theorem State.busWrite_cart_fixed (s : State) (a : Word) (v : Byte) :
    (s.busWrite a v).cart.rom = s.cart.rom ∧ (s.busWrite a v).cart.romLen = s.cart.romLen ∧
    (s.busWrite a v).cart.ramLen = s.cart.ramLen := by
  simp only [State.busWrite]
  split
  · have h := Cartridge.write_fixed s.cart a.toNat v
    exact ⟨h.1, h.2.1, h.2.2.1⟩
  split
  · simp
  split
  · have h := Cartridge.ramWrite_fixed s.cart a.toNat v
    exact ⟨h.1, h.2.1, h.2.2.1⟩
  repeat' (split; · first | exact ⟨rfl, rfl, rfl⟩ | (rw [(State.ioWrite_fixed s _ v).1]; simp))
  simp

/-! ## Setters and the stack -/

theorem State.busWrite_setReg (s : State) (r : Reg8) (w : Byte) (a : Word) (v : Byte) :
    (s.setReg r w).busWrite a v = (s.busWrite a v).setReg r w := by
  cases r <;> simp [State.setReg, State.busWrite_setCpu]

theorem State.busWrite_setSp (s : State) (w a : Word) (v : Byte) :
    (s.setSp w).busWrite a v = (s.busWrite a v).setSp w := by simp [State.setSp, State.busWrite_setCpu]

theorem State.busWrite_setPc (s : State) (w a : Word) (v : Byte) :
    (s.setPc w).busWrite a v = (s.busWrite a v).setPc w := by simp [State.setPc, State.busWrite_setCpu]

theorem State.busWrite_setFlags (s : State) (f : Flags) (a : Word) (v : Byte) :
    (s.setFlags f).busWrite a v = (s.busWrite a v).setFlags f := by simp [State.setFlags, State.busWrite_setCpu]

/-- `Push16` (41_load16.md R190): two writes, and of the CPU only `SP` moves. -/
theorem State.push16_cpu (s : State) (v : Word) : (s.push16 v).cpu = { s.cpu with sp := s.cpu.sp - 2 } := by
  simp [State.push16, State.setSp]

@[simp] theorem State.push16_params (s : State) (v : Word) : (s.push16 v).params = s.params := by simp [State.push16]

/-- What a push makes of everything outside the CPU. -/
theorem State.push16_eq (s : State) (v : Word) :
    s.push16 v = { (s.busWrite (s.cpu.sp - 1) (hiByte v)).busWrite (s.cpu.sp - 2) (loByte v) with
      cpu := { s.cpu with sp := s.cpu.sp - 2 } } := by
  simp [State.push16, State.setSp]

/-- `Pop16` (R190): the word at `SP`, and of the whole state only `SP` moves. -/
theorem State.pop16_eq (s : State) : s.pop16 = (s.stackTop, s.setSp (s.cpu.sp + 2)) := rfl

@[simp] theorem State.wakeCheck_params (s : State) : s.wakeCheck.params = s.params := by
  unfold State.wakeCheck; split <;> rfl

end Sys2Proof.Machine
end

