-- ==== Sys2Proof/Laws/Families.lean ====
section
/-! SUPPORT. The families of instructions: a proof about every instruction by one case for each family, and what `exec`
answers for a family. The bytes of a family are left to the statements. -/

namespace Sys2Proof

/-- A property of every instruction, from its families (R133 to R137) and the rows that stand alone. -/
theorem Instr.byFamily {P : Instr → Prop}
    (ldRR : ∀ (q : Reg8) (r : Reg8), P (Instr.ldRR q r))
    (ldRN : ∀ (r : Reg8) (x : Byte), P (Instr.ldRN r x))
    (ldRHl : ∀ (r : Reg8), P (Instr.ldRHl r))
    (ldHlR : ∀ (r : Reg8), P (Instr.ldHlR r))
    (ldPairNN : ∀ (p : Pair) (x : Word), P (Instr.ldPairNN p x))
    (push : ∀ (p : StackPair), P (Instr.push p))
    (pop : ∀ (p : StackPair), P (Instr.pop p))
    (aluR : ∀ (op : AluOp) (r : Reg8), P (Instr.aluR op r))
    (aluHl : ∀ (op : AluOp), P (Instr.aluHl op))
    (aluN : ∀ (op : AluOp) (x : Byte), P (Instr.aluN op x))
    (incR : ∀ (r : Reg8), P (Instr.incR r))
    (decR : ∀ (r : Reg8), P (Instr.decR r))
    (addHl : ∀ (p : Pair), P (Instr.addHl p))
    (incPair : ∀ (p : Pair), P (Instr.incPair p))
    (decPair : ∀ (p : Pair), P (Instr.decPair p))
    (jpCc : ∀ (cc : Cond) (x : Word), P (Instr.jpCc cc x))
    (jrCc : ∀ (cc : Cond) (x : Byte), P (Instr.jrCc cc x))
    (callCc : ∀ (cc : Cond) (x : Word), P (Instr.callCc cc x))
    (retCc : ∀ (cc : Cond), P (Instr.retCc cc))
    (rst : ∀ (y : RstIndex), P (Instr.rst y))
    (rotR : ∀ (op : RotOp) (r : Reg8), P (Instr.rotR op r))
    (rotHl : ∀ (op : RotOp), P (Instr.rotHl op))
    (bitR : ∀ (n : BitIndex) (r : Reg8), P (Instr.bitR n r))
    (bitHl : ∀ (n : BitIndex), P (Instr.bitHl n))
    (resR : ∀ (n : BitIndex) (r : Reg8), P (Instr.resR n r))
    (resHl : ∀ (n : BitIndex), P (Instr.resHl n))
    (setR : ∀ (n : BitIndex) (r : Reg8), P (Instr.setR n r))
    (setHl : ∀ (n : BitIndex), P (Instr.setHl n))
    (ldBcD16 : ∀ v : Word, P (.ldBcD16 v))
    (ldBD8 : ∀ n : Byte, P (.ldBD8 n))
    (ldMemA16Sp : ∀ v : Word, P (.ldMemA16Sp v))
    (stop : ∀ n : Byte, P (.stop n))
    (jrE8 : ∀ e : Byte, P (.jrE8 e))
    (jrNzE8 : ∀ e : Byte, P (.jrNzE8 e))
    (ldMemHlD8 : ∀ n : Byte, P (.ldMemHlD8 n))
    (jpNzA16 : ∀ v : Word, P (.jpNzA16 v))
    (jpA16 : ∀ v : Word, P (.jpA16 v))
    (callNzA16 : ∀ v : Word, P (.callNzA16 v))
    (addAD8 : ∀ n : Byte, P (.addAD8 n))
    (callA16 : ∀ v : Word, P (.callA16 v))
    (ldhMemA8A : ∀ n : Byte, P (.ldhMemA8A n))
    (addSpE8 : ∀ e : Byte, P (.addSpE8 e))
    (ldMemA16A : ∀ v : Word, P (.ldMemA16A v))
    (ldhAMemA8 : ∀ n : Byte, P (.ldhAMemA8 n))
    (ldHlSpE8 : ∀ e : Byte, P (.ldHlSpE8 e))
    (ldAMemA16 : ∀ v : Word, P (.ldAMemA16 v))
    (nop : P .nop)
    (ldMemBcA : P .ldMemBcA)
    (incBc : P .incBc)
    (incB : P .incB)
    (decB : P .decB)
    (rlca : P .rlca)
    (addHlBc : P .addHlBc)
    (ldAMemBc : P .ldAMemBc)
    (decBc : P .decBc)
    (rrca : P .rrca)
    (ldMemDeA : P .ldMemDeA)
    (rla : P .rla)
    (ldAMemDe : P .ldAMemDe)
    (rra : P .rra)
    (ldMemHlIncA : P .ldMemHlIncA)
    (daa : P .daa)
    (ldAMemHlInc : P .ldAMemHlInc)
    (cpl : P .cpl)
    (ldMemHlDecA : P .ldMemHlDecA)
    (incMemHl : P .incMemHl)
    (decMemHl : P .decMemHl)
    (scf : P .scf)
    (ldAMemHlDec : P .ldAMemHlDec)
    (ccf : P .ccf)
    (ldBB : P .ldBB)
    (ldBMemHl : P .ldBMemHl)
    (ldMemHlB : P .ldMemHlB)
    (halt : P .halt)
    (addAB : P .addAB)
    (addAMemHl : P .addAMemHl)
    (retNz : P .retNz)
    (popBc : P .popBc)
    (pushBc : P .pushBc)
    (rst00 : P .rst00)
    (ret : P .ret)
    (prefixCb : P .prefixCb)
    (undefD3 : P .undefD3)
    (reti : P .reti)
    (undefDB : P .undefDB)
    (undefDD : P .undefDD)
    (ldMemCA : P .ldMemCA)
    (undefE3 : P .undefE3)
    (undefE4 : P .undefE4)
    (jpHl : P .jpHl)
    (undefEB : P .undefEB)
    (undefEC : P .undefEC)
    (undefED : P .undefED)
    (ldAMemC : P .ldAMemC)
    (di : P .di)
    (undefF4 : P .undefF4)
    (ldSpHl : P .ldSpHl)
    (ei : P .ei)
    (undefFC : P .undefFC)
    (undefFD : P .undefFD)
    (rlcB : P .rlcB)
    (rlcMemHl : P .rlcMemHl)
    (bit0B : P .bit0B)
    (bit0MemHl : P .bit0MemHl)
    (res0B : P .res0B)
    (res0MemHl : P .res0MemHl)
    (set0B : P .set0B)
    (set0MemHl : P .set0MemHl)
    (i : Instr) : P i :=
  match i with
  | .ldBcD16 v => ldBcD16 v
  | .ldBD8 n => ldBD8 n
  | .ldMemA16Sp v => ldMemA16Sp v
  | .ldCD8 n => ldRN .c n
  | .stop n => stop n
  | .ldDeD16 v => ldPairNN .de v
  | .ldDD8 n => ldRN .d n
  | .jrE8 e => jrE8 e
  | .ldED8 n => ldRN .e n
  | .jrNzE8 e => jrNzE8 e
  | .ldHlD16 v => ldPairNN .hl v
  | .ldHD8 n => ldRN .h n
  | .jrZE8 e => jrCc .z e
  | .ldLD8 n => ldRN .l n
  | .jrNcE8 e => jrCc .nc e
  | .ldSpD16 v => ldPairNN .sp v
  | .ldMemHlD8 n => ldMemHlD8 n
  | .jrCE8 e => jrCc .c e
  | .ldAD8 n => ldRN .a n
  | .jpNzA16 v => jpNzA16 v
  | .jpA16 v => jpA16 v
  | .callNzA16 v => callNzA16 v
  | .addAD8 n => addAD8 n
  | .jpZA16 v => jpCc .z v
  | .callZA16 v => callCc .z v
  | .callA16 v => callA16 v
  | .adcAD8 n => aluN .adc n
  | .jpNcA16 v => jpCc .nc v
  | .callNcA16 v => callCc .nc v
  | .subD8 n => aluN .sub n
  | .jpCA16 v => jpCc .c v
  | .callCA16 v => callCc .c v
  | .sbcAD8 n => aluN .sbc n
  | .ldhMemA8A n => ldhMemA8A n
  | .andD8 n => aluN .and n
  | .addSpE8 e => addSpE8 e
  | .ldMemA16A v => ldMemA16A v
  | .xorD8 n => aluN .xor n
  | .ldhAMemA8 n => ldhAMemA8 n
  | .orD8 n => aluN .or n
  | .ldHlSpE8 e => ldHlSpE8 e
  | .ldAMemA16 v => ldAMemA16 v
  | .cpD8 n => aluN .cp n
  | .nop => nop
  | .ldMemBcA => ldMemBcA
  | .incBc => incBc
  | .incB => incB
  | .decB => decB
  | .rlca => rlca
  | .addHlBc => addHlBc
  | .ldAMemBc => ldAMemBc
  | .decBc => decBc
  | .incC => incR .c
  | .decC => decR .c
  | .rrca => rrca
  | .ldMemDeA => ldMemDeA
  | .incDe => incPair .de
  | .incD => incR .d
  | .decD => decR .d
  | .rla => rla
  | .addHlDe => addHl .de
  | .ldAMemDe => ldAMemDe
  | .decDe => decPair .de
  | .incE => incR .e
  | .decE => decR .e
  | .rra => rra
  | .ldMemHlIncA => ldMemHlIncA
  | .incHl => incPair .hl
  | .incH => incR .h
  | .decH => decR .h
  | .daa => daa
  | .addHlHl => addHl .hl
  | .ldAMemHlInc => ldAMemHlInc
  | .decHl => decPair .hl
  | .incL => incR .l
  | .decL => decR .l
  | .cpl => cpl
  | .ldMemHlDecA => ldMemHlDecA
  | .incSp => incPair .sp
  | .incMemHl => incMemHl
  | .decMemHl => decMemHl
  | .scf => scf
  | .addHlSp => addHl .sp
  | .ldAMemHlDec => ldAMemHlDec
  | .decSp => decPair .sp
  | .incA => incR .a
  | .decA => decR .a
  | .ccf => ccf
  | .ldBB => ldBB
  | .ldBC => ldRR .b .c
  | .ldBD => ldRR .b .d
  | .ldBE => ldRR .b .e
  | .ldBH => ldRR .b .h
  | .ldBL => ldRR .b .l
  | .ldBMemHl => ldBMemHl
  | .ldBA => ldRR .b .a
  | .ldCB => ldRR .c .b
  | .ldCC => ldRR .c .c
  | .ldCD => ldRR .c .d
  | .ldCE => ldRR .c .e
  | .ldCH => ldRR .c .h
  | .ldCL => ldRR .c .l
  | .ldCMemHl => ldRHl .c
  | .ldCA => ldRR .c .a
  | .ldDB => ldRR .d .b
  | .ldDC => ldRR .d .c
  | .ldDD => ldRR .d .d
  | .ldDE => ldRR .d .e
  | .ldDH => ldRR .d .h
  | .ldDL => ldRR .d .l
  | .ldDMemHl => ldRHl .d
  | .ldDA => ldRR .d .a
  | .ldEB => ldRR .e .b
  | .ldEC => ldRR .e .c
  | .ldED => ldRR .e .d
  | .ldEE => ldRR .e .e
  | .ldEH => ldRR .e .h
  | .ldEL => ldRR .e .l
  | .ldEMemHl => ldRHl .e
  | .ldEA => ldRR .e .a
  | .ldHB => ldRR .h .b
  | .ldHC => ldRR .h .c
  | .ldHD => ldRR .h .d
  | .ldHE => ldRR .h .e
  | .ldHH => ldRR .h .h
  | .ldHL => ldRR .h .l
  | .ldHMemHl => ldRHl .h
  | .ldHA => ldRR .h .a
  | .ldLB => ldRR .l .b
  | .ldLC => ldRR .l .c
  | .ldLD => ldRR .l .d
  | .ldLE => ldRR .l .e
  | .ldLH => ldRR .l .h
  | .ldLL => ldRR .l .l
  | .ldLMemHl => ldRHl .l
  | .ldLA => ldRR .l .a
  | .ldMemHlB => ldMemHlB
  | .ldMemHlC => ldHlR .c
  | .ldMemHlD => ldHlR .d
  | .ldMemHlE => ldHlR .e
  | .ldMemHlH => ldHlR .h
  | .ldMemHlL => ldHlR .l
  | .halt => halt
  | .ldMemHlA => ldHlR .a
  | .ldAB => ldRR .a .b
  | .ldAC => ldRR .a .c
  | .ldAD => ldRR .a .d
  | .ldAE => ldRR .a .e
  | .ldAH => ldRR .a .h
  | .ldAL => ldRR .a .l
  | .ldAMemHl => ldRHl .a
  | .ldAA => ldRR .a .a
  | .addAB => addAB
  | .addAC => aluR .add .c
  | .addAD => aluR .add .d
  | .addAE => aluR .add .e
  | .addAH => aluR .add .h
  | .addAL => aluR .add .l
  | .addAMemHl => addAMemHl
  | .addAA => aluR .add .a
  | .adcAB => aluR .adc .b
  | .adcAC => aluR .adc .c
  | .adcAD => aluR .adc .d
  | .adcAE => aluR .adc .e
  | .adcAH => aluR .adc .h
  | .adcAL => aluR .adc .l
  | .adcAMemHl => aluHl .adc
  | .adcAA => aluR .adc .a
  | .subB => aluR .sub .b
  | .subC => aluR .sub .c
  | .subD => aluR .sub .d
  | .subE => aluR .sub .e
  | .subH => aluR .sub .h
  | .subL => aluR .sub .l
  | .subMemHl => aluHl .sub
  | .subA => aluR .sub .a
  | .sbcAB => aluR .sbc .b
  | .sbcAC => aluR .sbc .c
  | .sbcAD => aluR .sbc .d
  | .sbcAE => aluR .sbc .e
  | .sbcAH => aluR .sbc .h
  | .sbcAL => aluR .sbc .l
  | .sbcAMemHl => aluHl .sbc
  | .sbcAA => aluR .sbc .a
  | .andB => aluR .and .b
  | .andC => aluR .and .c
  | .andD => aluR .and .d
  | .andE => aluR .and .e
  | .andH => aluR .and .h
  | .andL => aluR .and .l
  | .andMemHl => aluHl .and
  | .andA => aluR .and .a
  | .xorB => aluR .xor .b
  | .xorC => aluR .xor .c
  | .xorD => aluR .xor .d
  | .xorE => aluR .xor .e
  | .xorH => aluR .xor .h
  | .xorL => aluR .xor .l
  | .xorMemHl => aluHl .xor
  | .xorA => aluR .xor .a
  | .orB => aluR .or .b
  | .orC => aluR .or .c
  | .orD => aluR .or .d
  | .orE => aluR .or .e
  | .orH => aluR .or .h
  | .orL => aluR .or .l
  | .orMemHl => aluHl .or
  | .orA => aluR .or .a
  | .cpB => aluR .cp .b
  | .cpC => aluR .cp .c
  | .cpD => aluR .cp .d
  | .cpE => aluR .cp .e
  | .cpH => aluR .cp .h
  | .cpL => aluR .cp .l
  | .cpMemHl => aluHl .cp
  | .cpA => aluR .cp .a
  | .retNz => retNz
  | .popBc => popBc
  | .pushBc => pushBc
  | .rst00 => rst00
  | .retZ => retCc .z
  | .ret => ret
  | .prefixCb => prefixCb
  | .rst08 => rst 1
  | .retNc => retCc .nc
  | .popDe => pop .de
  | .undefD3 => undefD3
  | .pushDe => push .de
  | .rst10 => rst 2
  | .retC => retCc .c
  | .reti => reti
  | .undefDB => undefDB
  | .undefDD => undefDD
  | .rst18 => rst 3
  | .popHl => pop .hl
  | .ldMemCA => ldMemCA
  | .undefE3 => undefE3
  | .undefE4 => undefE4
  | .pushHl => push .hl
  | .rst20 => rst 4
  | .jpHl => jpHl
  | .undefEB => undefEB
  | .undefEC => undefEC
  | .undefED => undefED
  | .rst28 => rst 5
  | .popAf => pop .af
  | .ldAMemC => ldAMemC
  | .di => di
  | .undefF4 => undefF4
  | .pushAf => push .af
  | .rst30 => rst 6
  | .ldSpHl => ldSpHl
  | .ei => ei
  | .undefFC => undefFC
  | .undefFD => undefFD
  | .rst38 => rst 7
  | .rlcB => rlcB
  | .rlcC => rotR .rlc .c
  | .rlcD => rotR .rlc .d
  | .rlcE => rotR .rlc .e
  | .rlcH => rotR .rlc .h
  | .rlcL => rotR .rlc .l
  | .rlcMemHl => rlcMemHl
  | .rlcA => rotR .rlc .a
  | .rrcB => rotR .rrc .b
  | .rrcC => rotR .rrc .c
  | .rrcD => rotR .rrc .d
  | .rrcE => rotR .rrc .e
  | .rrcH => rotR .rrc .h
  | .rrcL => rotR .rrc .l
  | .rrcMemHl => rotHl .rrc
  | .rrcA => rotR .rrc .a
  | .rlB => rotR .rl .b
  | .rlC => rotR .rl .c
  | .rlD => rotR .rl .d
  | .rlE => rotR .rl .e
  | .rlH => rotR .rl .h
  | .rlL => rotR .rl .l
  | .rlMemHl => rotHl .rl
  | .rlA => rotR .rl .a
  | .rrB => rotR .rr .b
  | .rrC => rotR .rr .c
  | .rrD => rotR .rr .d
  | .rrE => rotR .rr .e
  | .rrH => rotR .rr .h
  | .rrL => rotR .rr .l
  | .rrMemHl => rotHl .rr
  | .rrA => rotR .rr .a
  | .slaB => rotR .sla .b
  | .slaC => rotR .sla .c
  | .slaD => rotR .sla .d
  | .slaE => rotR .sla .e
  | .slaH => rotR .sla .h
  | .slaL => rotR .sla .l
  | .slaMemHl => rotHl .sla
  | .slaA => rotR .sla .a
  | .sraB => rotR .sra .b
  | .sraC => rotR .sra .c
  | .sraD => rotR .sra .d
  | .sraE => rotR .sra .e
  | .sraH => rotR .sra .h
  | .sraL => rotR .sra .l
  | .sraMemHl => rotHl .sra
  | .sraA => rotR .sra .a
  | .swapB => rotR .swap .b
  | .swapC => rotR .swap .c
  | .swapD => rotR .swap .d
  | .swapE => rotR .swap .e
  | .swapH => rotR .swap .h
  | .swapL => rotR .swap .l
  | .swapMemHl => rotHl .swap
  | .swapA => rotR .swap .a
  | .srlB => rotR .srl .b
  | .srlC => rotR .srl .c
  | .srlD => rotR .srl .d
  | .srlE => rotR .srl .e
  | .srlH => rotR .srl .h
  | .srlL => rotR .srl .l
  | .srlMemHl => rotHl .srl
  | .srlA => rotR .srl .a
  | .bit0B => bit0B
  | .bit0C => bitR 0 .c
  | .bit0D => bitR 0 .d
  | .bit0E => bitR 0 .e
  | .bit0H => bitR 0 .h
  | .bit0L => bitR 0 .l
  | .bit0MemHl => bit0MemHl
  | .bit0A => bitR 0 .a
  | .bit1B => bitR 1 .b
  | .bit1C => bitR 1 .c
  | .bit1D => bitR 1 .d
  | .bit1E => bitR 1 .e
  | .bit1H => bitR 1 .h
  | .bit1L => bitR 1 .l
  | .bit1MemHl => bitHl 1
  | .bit1A => bitR 1 .a
  | .bit2B => bitR 2 .b
  | .bit2C => bitR 2 .c
  | .bit2D => bitR 2 .d
  | .bit2E => bitR 2 .e
  | .bit2H => bitR 2 .h
  | .bit2L => bitR 2 .l
  | .bit2MemHl => bitHl 2
  | .bit2A => bitR 2 .a
  | .bit3B => bitR 3 .b
  | .bit3C => bitR 3 .c
  | .bit3D => bitR 3 .d
  | .bit3E => bitR 3 .e
  | .bit3H => bitR 3 .h
  | .bit3L => bitR 3 .l
  | .bit3MemHl => bitHl 3
  | .bit3A => bitR 3 .a
  | .bit4B => bitR 4 .b
  | .bit4C => bitR 4 .c
  | .bit4D => bitR 4 .d
  | .bit4E => bitR 4 .e
  | .bit4H => bitR 4 .h
  | .bit4L => bitR 4 .l
  | .bit4MemHl => bitHl 4
  | .bit4A => bitR 4 .a
  | .bit5B => bitR 5 .b
  | .bit5C => bitR 5 .c
  | .bit5D => bitR 5 .d
  | .bit5E => bitR 5 .e
  | .bit5H => bitR 5 .h
  | .bit5L => bitR 5 .l
  | .bit5MemHl => bitHl 5
  | .bit5A => bitR 5 .a
  | .bit6B => bitR 6 .b
  | .bit6C => bitR 6 .c
  | .bit6D => bitR 6 .d
  | .bit6E => bitR 6 .e
  | .bit6H => bitR 6 .h
  | .bit6L => bitR 6 .l
  | .bit6MemHl => bitHl 6
  | .bit6A => bitR 6 .a
  | .bit7B => bitR 7 .b
  | .bit7C => bitR 7 .c
  | .bit7D => bitR 7 .d
  | .bit7E => bitR 7 .e
  | .bit7H => bitR 7 .h
  | .bit7L => bitR 7 .l
  | .bit7MemHl => bitHl 7
  | .bit7A => bitR 7 .a
  | .res0B => res0B
  | .res0C => resR 0 .c
  | .res0D => resR 0 .d
  | .res0E => resR 0 .e
  | .res0H => resR 0 .h
  | .res0L => resR 0 .l
  | .res0MemHl => res0MemHl
  | .res0A => resR 0 .a
  | .res1B => resR 1 .b
  | .res1C => resR 1 .c
  | .res1D => resR 1 .d
  | .res1E => resR 1 .e
  | .res1H => resR 1 .h
  | .res1L => resR 1 .l
  | .res1MemHl => resHl 1
  | .res1A => resR 1 .a
  | .res2B => resR 2 .b
  | .res2C => resR 2 .c
  | .res2D => resR 2 .d
  | .res2E => resR 2 .e
  | .res2H => resR 2 .h
  | .res2L => resR 2 .l
  | .res2MemHl => resHl 2
  | .res2A => resR 2 .a
  | .res3B => resR 3 .b
  | .res3C => resR 3 .c
  | .res3D => resR 3 .d
  | .res3E => resR 3 .e
  | .res3H => resR 3 .h
  | .res3L => resR 3 .l
  | .res3MemHl => resHl 3
  | .res3A => resR 3 .a
  | .res4B => resR 4 .b
  | .res4C => resR 4 .c
  | .res4D => resR 4 .d
  | .res4E => resR 4 .e
  | .res4H => resR 4 .h
  | .res4L => resR 4 .l
  | .res4MemHl => resHl 4
  | .res4A => resR 4 .a
  | .res5B => resR 5 .b
  | .res5C => resR 5 .c
  | .res5D => resR 5 .d
  | .res5E => resR 5 .e
  | .res5H => resR 5 .h
  | .res5L => resR 5 .l
  | .res5MemHl => resHl 5
  | .res5A => resR 5 .a
  | .res6B => resR 6 .b
  | .res6C => resR 6 .c
  | .res6D => resR 6 .d
  | .res6E => resR 6 .e
  | .res6H => resR 6 .h
  | .res6L => resR 6 .l
  | .res6MemHl => resHl 6
  | .res6A => resR 6 .a
  | .res7B => resR 7 .b
  | .res7C => resR 7 .c
  | .res7D => resR 7 .d
  | .res7E => resR 7 .e
  | .res7H => resR 7 .h
  | .res7L => resR 7 .l
  | .res7MemHl => resHl 7
  | .res7A => resR 7 .a
  | .set0B => set0B
  | .set0C => setR 0 .c
  | .set0D => setR 0 .d
  | .set0E => setR 0 .e
  | .set0H => setR 0 .h
  | .set0L => setR 0 .l
  | .set0MemHl => set0MemHl
  | .set0A => setR 0 .a
  | .set1B => setR 1 .b
  | .set1C => setR 1 .c
  | .set1D => setR 1 .d
  | .set1E => setR 1 .e
  | .set1H => setR 1 .h
  | .set1L => setR 1 .l
  | .set1MemHl => setHl 1
  | .set1A => setR 1 .a
  | .set2B => setR 2 .b
  | .set2C => setR 2 .c
  | .set2D => setR 2 .d
  | .set2E => setR 2 .e
  | .set2H => setR 2 .h
  | .set2L => setR 2 .l
  | .set2MemHl => setHl 2
  | .set2A => setR 2 .a
  | .set3B => setR 3 .b
  | .set3C => setR 3 .c
  | .set3D => setR 3 .d
  | .set3E => setR 3 .e
  | .set3H => setR 3 .h
  | .set3L => setR 3 .l
  | .set3MemHl => setHl 3
  | .set3A => setR 3 .a
  | .set4B => setR 4 .b
  | .set4C => setR 4 .c
  | .set4D => setR 4 .d
  | .set4E => setR 4 .e
  | .set4H => setR 4 .h
  | .set4L => setR 4 .l
  | .set4MemHl => setHl 4
  | .set4A => setR 4 .a
  | .set5B => setR 5 .b
  | .set5C => setR 5 .c
  | .set5D => setR 5 .d
  | .set5E => setR 5 .e
  | .set5H => setR 5 .h
  | .set5L => setR 5 .l
  | .set5MemHl => setHl 5
  | .set5A => setR 5 .a
  | .set6B => setR 6 .b
  | .set6C => setR 6 .c
  | .set6D => setR 6 .d
  | .set6E => setR 6 .e
  | .set6H => setR 6 .h
  | .set6L => setR 6 .l
  | .set6MemHl => setHl 6
  | .set6A => setR 6 .a
  | .set7B => setR 7 .b
  | .set7C => setR 7 .c
  | .set7D => setR 7 .d
  | .set7E => setR 7 .e
  | .set7H => setR 7 .h
  | .set7L => setR 7 .l
  | .set7MemHl => setHl 7
  | .set7A => setR 7 .a

namespace Machine

@[simp] theorem exec_ldRR (q : Reg8) (r : Reg8) (s : State) :
    exec (Instr.ldRR q r) s = .next (opLdRR q r s) := by
  cases q <;> cases r <;> rfl

@[simp] theorem exec_ldRN (r : Reg8) (x : Byte) (s : State) :
    exec (Instr.ldRN r x) s = .next (opLdRN r x s) := by
  cases r <;> rfl

@[simp] theorem exec_ldRHl (r : Reg8) (s : State) :
    exec (Instr.ldRHl r) s = .next (opLoad r s.hl s) := by
  cases r <;> rfl

@[simp] theorem exec_ldHlR (r : Reg8) (s : State) :
    exec (Instr.ldHlR r) s = .next (opStore s.hl (s.reg r) s) := by
  cases r <;> rfl

@[simp] theorem exec_ldPairNN (p : Pair) (x : Word) (s : State) :
    exec (Instr.ldPairNN p x) s = .next (opLdPair p x s) := by
  cases p <;> rfl

@[simp] theorem exec_push (p : StackPair) (s : State) :
    exec (Instr.push p) s = .next (opPush p s) := by
  cases p <;> rfl

@[simp] theorem exec_pop (p : StackPair) (s : State) :
    exec (Instr.pop p) s = .next (opPop p s) := by
  cases p <;> rfl

@[simp] theorem exec_aluR (op : AluOp) (r : Reg8) (s : State) :
    exec (Instr.aluR op r) s = .next (opAlu op (s.reg r) s) := by
  cases op <;> cases r <;> rfl

@[simp] theorem exec_aluHl (op : AluOp) (s : State) :
    exec (Instr.aluHl op) s = .next (opAlu op (s.busRead s.hl) s) := by
  cases op <;> rfl

@[simp] theorem exec_aluN (op : AluOp) (x : Byte) (s : State) :
    exec (Instr.aluN op x) s = .next (opAlu op x s) := by
  cases op <;> rfl

@[simp] theorem exec_incR (r : Reg8) (s : State) :
    exec (Instr.incR r) s = .next (opInc (.r r) s) := by
  cases r <;> rfl

@[simp] theorem exec_decR (r : Reg8) (s : State) :
    exec (Instr.decR r) s = .next (opDec (.r r) s) := by
  cases r <;> rfl

@[simp] theorem exec_addHl (p : Pair) (s : State) :
    exec (Instr.addHl p) s = .next (opAddHl p s) := by
  cases p <;> rfl

@[simp] theorem exec_incPair (p : Pair) (s : State) :
    exec (Instr.incPair p) s = .next (s.setPair p (s.pair p + 1)) := by
  cases p <;> rfl

@[simp] theorem exec_decPair (p : Pair) (s : State) :
    exec (Instr.decPair p) s = .next (s.setPair p (s.pair p - 1)) := by
  cases p <;> rfl

@[simp] theorem exec_jpCc (cc : Cond) (x : Word) (s : State) :
    exec (Instr.jpCc cc x) s = .next (opIf cc (fun t => t.setPc x) s) := by
  cases cc <;> rfl

@[simp] theorem exec_jrCc (cc : Cond) (x : Byte) (s : State) :
    exec (Instr.jrCc cc x) s = .next (opIf cc (opJr x) s) := by
  cases cc <;> rfl

@[simp] theorem exec_callCc (cc : Cond) (x : Word) (s : State) :
    exec (Instr.callCc cc x) s = .next (opIf cc (opCall x) s) := by
  cases cc <;> rfl

@[simp] theorem exec_retCc (cc : Cond) (s : State) :
    exec (Instr.retCc cc) s = .next (opIf cc opRet s) := by
  cases cc <;> rfl

@[simp] theorem exec_rst (y : RstIndex) (s : State) :
    exec (Instr.rst y) s = .next (opRst y s) := by
  fin_cases y <;> rfl

@[simp] theorem exec_rotR (op : RotOp) (r : Reg8) (s : State) :
    exec (Instr.rotR op r) s = .next (opRot op (.r r) s) := by
  cases op <;> cases r <;> rfl

@[simp] theorem exec_rotHl (op : RotOp) (s : State) :
    exec (Instr.rotHl op) s = .next (opRot op .hlMem s) := by
  cases op <;> rfl

@[simp] theorem exec_bitR (n : BitIndex) (r : Reg8) (s : State) :
    exec (Instr.bitR n r) s = .next (opBit n (.r r) s) := by
  fin_cases n <;> cases r <;> rfl

@[simp] theorem exec_bitHl (n : BitIndex) (s : State) :
    exec (Instr.bitHl n) s = .next (opBit n .hlMem s) := by
  fin_cases n <;> rfl

@[simp] theorem exec_resR (n : BitIndex) (r : Reg8) (s : State) :
    exec (Instr.resR n r) s = .next (opRes n (.r r) s) := by
  fin_cases n <;> cases r <;> rfl

@[simp] theorem exec_resHl (n : BitIndex) (s : State) :
    exec (Instr.resHl n) s = .next (opRes n .hlMem s) := by
  fin_cases n <;> rfl

@[simp] theorem exec_setR (n : BitIndex) (r : Reg8) (s : State) :
    exec (Instr.setR n r) s = .next (opSet n (.r r) s) := by
  fin_cases n <;> cases r <;> rfl

@[simp] theorem exec_setHl (n : BitIndex) (s : State) :
    exec (Instr.setHl n) s = .next (opSet n .hlMem s) := by
  fin_cases n <;> rfl

/-- An undefined opcode (R305). -/
theorem exec_undefined {i : Instr} (h : i ∈ Instr.undefinedRows) (s : State) : exec i s = opUndefined s := by
  simp only [Instr.undefinedRows, List.mem_cons, List.not_mem_nil, or_false] at h
  rcases h with rfl | rfl | rfl | rfl | rfl | rfl | rfl | rfl | rfl | rfl | rfl <;> rfl

end Machine

end Sys2Proof
end

