-- ==== Sys2Proof/Laws/Cost.lean ====
section
/-! SUPPORT. The cost of an instruction from its row and its condition (spec/30_encoding.md R140). -/

namespace Sys2Proof.Machine

theorem Params.cost_default {p : Params} (h : p.costs = []) (row : Nat) (taken : Bool) :
    Params.cost p row taken = defaultCost row taken := by
  simp [Params.cost, h]

theorem costOf_of_ne {i : Instr} (hi : i ≠ .prefixCb) (s : State) :
    costOf i s = Params.cost s.params i.row (Instr.taken i s.cpu.f) := if_neg hi

/-- An instruction without a condition costs what its row says. -/
theorem hasCost_of_row {i : Instr} {n : Nat} (hi : i ≠ .prefixCb) (hc : Instr.condition i = none)
    (h : defaultCost i.row true = n) : HasCost i n := by
  intro s hs
  rw [costOf_of_ne hi, Params.cost_default hs, ← h]
  simp [Instr.taken, hc]

/-- An instruction with a condition costs what its row says for the outcome. -/
theorem hasCosts_of_row {i : Instr} {cc : Cond} {n m : Nat} (hi : i ≠ .prefixCb) (hc : Instr.condition i = some cc)
    (hn : defaultCost i.row true = n) (hm : defaultCost i.row false = m) : HasCosts i cc n m := by
  intro s hs
  rw [costOf_of_ne hi, Params.cost_default hs, ← hn, ← hm]
  simp only [Instr.taken, hc]
  cases s.cpu.f.holds cc <;> rfl

theorem Instr.ne_prefix_of_row {i : Instr} (h : i.row ≠ 203) : i ≠ .prefixCb := by
  rintro rfl
  exact h rfl

/-- `HasCost` from the number of the row: the last hypothesis evaluates. -/
theorem hasCost_of_check {i : Instr} {n : Nat} (k : Nat) (hr : i.row = k) (hc : Instr.condition i = none)
    (h : (k != 203 && defaultCost k true == n) = true) : HasCost i n := by
  subst hr
  simp only [Bool.and_eq_true, bne_iff_ne, beq_iff_eq] at h
  exact hasCost_of_row (Instr.ne_prefix_of_row h.1) hc h.2

/-- `HasCosts` from the number of the row: the last hypothesis evaluates. -/
theorem hasCosts_of_check {i : Instr} {cc : Cond} {n m : Nat} (k : Nat) (hr : i.row = k)
    (hc : Instr.condition i = some cc)
    (h : (k != 203 && defaultCost k true == n && defaultCost k false == m) = true) : HasCosts i cc n m := by
  subst hr
  simp only [Bool.and_eq_true, bne_iff_ne, beq_iff_eq] at h
  exact hasCosts_of_row (Instr.ne_prefix_of_row h.1.1) hc h.1.2 h.2

end Sys2Proof.Machine
end

