-- ==== Sys2Proof/Laws/PerInstr.lean ====
section
/-! SUPPORT. The per-instruction family `EncodeLength`: how long the encoding of each instruction is (spec/30_encoding.md R130)
and that its row is one of the 512 of the table (R131), one lemma per constructor of `Instr`. -/

namespace Sys2Proof.Laws.EncodeLength

/-- The encoding has 1, 2 or 3 bytes and the row is one of the two tables' 512. -/
def Statement (i : Instr) : Prop := 1 ≤ (encode i).length ∧ (encode i).length ≤ 3 ∧ i.row < 512

theorem of_ble {i : Instr} (h : (Nat.ble 1 (encode i).length && Nat.ble (encode i).length 3 && Nat.ble (i.row + 1) 512) = true) :
    Statement i := by
  simp only [Bool.and_eq_true] at h
  exact ⟨Nat.le_of_ble_eq_true h.1.1, Nat.le_of_ble_eq_true h.1.2, Nat.le_of_ble_eq_true h.2⟩

theorem ldBcD16 (v : Word) : Statement (.ldBcD16 v) := of_ble rfl
theorem ldBD8 (n : Byte) : Statement (.ldBD8 n) := of_ble rfl
theorem ldMemA16Sp (v : Word) : Statement (.ldMemA16Sp v) := of_ble rfl
theorem ldCD8 (n : Byte) : Statement (.ldCD8 n) := of_ble rfl
theorem stop (n : Byte) : Statement (.stop n) := of_ble rfl
theorem ldDeD16 (v : Word) : Statement (.ldDeD16 v) := of_ble rfl
theorem ldDD8 (n : Byte) : Statement (.ldDD8 n) := of_ble rfl
theorem jrE8 (e : Byte) : Statement (.jrE8 e) := of_ble rfl
theorem ldED8 (n : Byte) : Statement (.ldED8 n) := of_ble rfl
theorem jrNzE8 (e : Byte) : Statement (.jrNzE8 e) := of_ble rfl
theorem ldHlD16 (v : Word) : Statement (.ldHlD16 v) := of_ble rfl
theorem ldHD8 (n : Byte) : Statement (.ldHD8 n) := of_ble rfl
theorem jrZE8 (e : Byte) : Statement (.jrZE8 e) := of_ble rfl
theorem ldLD8 (n : Byte) : Statement (.ldLD8 n) := of_ble rfl
theorem jrNcE8 (e : Byte) : Statement (.jrNcE8 e) := of_ble rfl
theorem ldSpD16 (v : Word) : Statement (.ldSpD16 v) := of_ble rfl
theorem ldMemHlD8 (n : Byte) : Statement (.ldMemHlD8 n) := of_ble rfl
theorem jrCE8 (e : Byte) : Statement (.jrCE8 e) := of_ble rfl
theorem ldAD8 (n : Byte) : Statement (.ldAD8 n) := of_ble rfl
theorem jpNzA16 (v : Word) : Statement (.jpNzA16 v) := of_ble rfl
theorem jpA16 (v : Word) : Statement (.jpA16 v) := of_ble rfl
theorem callNzA16 (v : Word) : Statement (.callNzA16 v) := of_ble rfl
theorem addAD8 (n : Byte) : Statement (.addAD8 n) := of_ble rfl
theorem jpZA16 (v : Word) : Statement (.jpZA16 v) := of_ble rfl
theorem callZA16 (v : Word) : Statement (.callZA16 v) := of_ble rfl
theorem callA16 (v : Word) : Statement (.callA16 v) := of_ble rfl
theorem adcAD8 (n : Byte) : Statement (.adcAD8 n) := of_ble rfl
theorem jpNcA16 (v : Word) : Statement (.jpNcA16 v) := of_ble rfl
theorem callNcA16 (v : Word) : Statement (.callNcA16 v) := of_ble rfl
theorem subD8 (n : Byte) : Statement (.subD8 n) := of_ble rfl
theorem jpCA16 (v : Word) : Statement (.jpCA16 v) := of_ble rfl
theorem callCA16 (v : Word) : Statement (.callCA16 v) := of_ble rfl
theorem sbcAD8 (n : Byte) : Statement (.sbcAD8 n) := of_ble rfl
theorem ldhMemA8A (n : Byte) : Statement (.ldhMemA8A n) := of_ble rfl
theorem andD8 (n : Byte) : Statement (.andD8 n) := of_ble rfl
theorem addSpE8 (e : Byte) : Statement (.addSpE8 e) := of_ble rfl
theorem ldMemA16A (v : Word) : Statement (.ldMemA16A v) := of_ble rfl
theorem xorD8 (n : Byte) : Statement (.xorD8 n) := of_ble rfl
theorem ldhAMemA8 (n : Byte) : Statement (.ldhAMemA8 n) := of_ble rfl
theorem orD8 (n : Byte) : Statement (.orD8 n) := of_ble rfl
theorem ldHlSpE8 (e : Byte) : Statement (.ldHlSpE8 e) := of_ble rfl
theorem ldAMemA16 (v : Word) : Statement (.ldAMemA16 v) := of_ble rfl
theorem cpD8 (n : Byte) : Statement (.cpD8 n) := of_ble rfl
theorem nop : Statement .nop := of_ble rfl
theorem ldMemBcA : Statement .ldMemBcA := of_ble rfl
theorem incBc : Statement .incBc := of_ble rfl
theorem incB : Statement .incB := of_ble rfl
theorem decB : Statement .decB := of_ble rfl
theorem rlca : Statement .rlca := of_ble rfl
theorem addHlBc : Statement .addHlBc := of_ble rfl
theorem ldAMemBc : Statement .ldAMemBc := of_ble rfl
theorem decBc : Statement .decBc := of_ble rfl
theorem incC : Statement .incC := of_ble rfl
theorem decC : Statement .decC := of_ble rfl
theorem rrca : Statement .rrca := of_ble rfl
theorem ldMemDeA : Statement .ldMemDeA := of_ble rfl
theorem incDe : Statement .incDe := of_ble rfl
theorem incD : Statement .incD := of_ble rfl
theorem decD : Statement .decD := of_ble rfl
theorem rla : Statement .rla := of_ble rfl
theorem addHlDe : Statement .addHlDe := of_ble rfl
theorem ldAMemDe : Statement .ldAMemDe := of_ble rfl
theorem decDe : Statement .decDe := of_ble rfl
theorem incE : Statement .incE := of_ble rfl
theorem decE : Statement .decE := of_ble rfl
theorem rra : Statement .rra := of_ble rfl
theorem ldMemHlIncA : Statement .ldMemHlIncA := of_ble rfl
theorem incHl : Statement .incHl := of_ble rfl
theorem incH : Statement .incH := of_ble rfl
theorem decH : Statement .decH := of_ble rfl
theorem daa : Statement .daa := of_ble rfl
theorem addHlHl : Statement .addHlHl := of_ble rfl
theorem ldAMemHlInc : Statement .ldAMemHlInc := of_ble rfl
theorem decHl : Statement .decHl := of_ble rfl
theorem incL : Statement .incL := of_ble rfl
theorem decL : Statement .decL := of_ble rfl
theorem cpl : Statement .cpl := of_ble rfl
theorem ldMemHlDecA : Statement .ldMemHlDecA := of_ble rfl
theorem incSp : Statement .incSp := of_ble rfl
theorem incMemHl : Statement .incMemHl := of_ble rfl
theorem decMemHl : Statement .decMemHl := of_ble rfl
theorem scf : Statement .scf := of_ble rfl
theorem addHlSp : Statement .addHlSp := of_ble rfl
theorem ldAMemHlDec : Statement .ldAMemHlDec := of_ble rfl
theorem decSp : Statement .decSp := of_ble rfl
theorem incA : Statement .incA := of_ble rfl
theorem decA : Statement .decA := of_ble rfl
theorem ccf : Statement .ccf := of_ble rfl
theorem ldBB : Statement .ldBB := of_ble rfl
theorem ldBC : Statement .ldBC := of_ble rfl
theorem ldBD : Statement .ldBD := of_ble rfl
theorem ldBE : Statement .ldBE := of_ble rfl
theorem ldBH : Statement .ldBH := of_ble rfl
theorem ldBL : Statement .ldBL := of_ble rfl
theorem ldBMemHl : Statement .ldBMemHl := of_ble rfl
theorem ldBA : Statement .ldBA := of_ble rfl
theorem ldCB : Statement .ldCB := of_ble rfl
theorem ldCC : Statement .ldCC := of_ble rfl
theorem ldCD : Statement .ldCD := of_ble rfl
theorem ldCE : Statement .ldCE := of_ble rfl
theorem ldCH : Statement .ldCH := of_ble rfl
theorem ldCL : Statement .ldCL := of_ble rfl
theorem ldCMemHl : Statement .ldCMemHl := of_ble rfl
theorem ldCA : Statement .ldCA := of_ble rfl
theorem ldDB : Statement .ldDB := of_ble rfl
theorem ldDC : Statement .ldDC := of_ble rfl
theorem ldDD : Statement .ldDD := of_ble rfl
theorem ldDE : Statement .ldDE := of_ble rfl
theorem ldDH : Statement .ldDH := of_ble rfl
theorem ldDL : Statement .ldDL := of_ble rfl
theorem ldDMemHl : Statement .ldDMemHl := of_ble rfl
theorem ldDA : Statement .ldDA := of_ble rfl
theorem ldEB : Statement .ldEB := of_ble rfl
theorem ldEC : Statement .ldEC := of_ble rfl
theorem ldED : Statement .ldED := of_ble rfl
theorem ldEE : Statement .ldEE := of_ble rfl
theorem ldEH : Statement .ldEH := of_ble rfl
theorem ldEL : Statement .ldEL := of_ble rfl
theorem ldEMemHl : Statement .ldEMemHl := of_ble rfl
theorem ldEA : Statement .ldEA := of_ble rfl
theorem ldHB : Statement .ldHB := of_ble rfl
theorem ldHC : Statement .ldHC := of_ble rfl
theorem ldHD : Statement .ldHD := of_ble rfl
theorem ldHE : Statement .ldHE := of_ble rfl
theorem ldHH : Statement .ldHH := of_ble rfl
theorem ldHL : Statement .ldHL := of_ble rfl
theorem ldHMemHl : Statement .ldHMemHl := of_ble rfl
theorem ldHA : Statement .ldHA := of_ble rfl
theorem ldLB : Statement .ldLB := of_ble rfl
theorem ldLC : Statement .ldLC := of_ble rfl
theorem ldLD : Statement .ldLD := of_ble rfl
theorem ldLE : Statement .ldLE := of_ble rfl
theorem ldLH : Statement .ldLH := of_ble rfl
theorem ldLL : Statement .ldLL := of_ble rfl
theorem ldLMemHl : Statement .ldLMemHl := of_ble rfl
theorem ldLA : Statement .ldLA := of_ble rfl
theorem ldMemHlB : Statement .ldMemHlB := of_ble rfl
theorem ldMemHlC : Statement .ldMemHlC := of_ble rfl
theorem ldMemHlD : Statement .ldMemHlD := of_ble rfl
theorem ldMemHlE : Statement .ldMemHlE := of_ble rfl
theorem ldMemHlH : Statement .ldMemHlH := of_ble rfl
theorem ldMemHlL : Statement .ldMemHlL := of_ble rfl
theorem halt : Statement .halt := of_ble rfl
theorem ldMemHlA : Statement .ldMemHlA := of_ble rfl
theorem ldAB : Statement .ldAB := of_ble rfl
theorem ldAC : Statement .ldAC := of_ble rfl
theorem ldAD : Statement .ldAD := of_ble rfl
theorem ldAE : Statement .ldAE := of_ble rfl
theorem ldAH : Statement .ldAH := of_ble rfl
theorem ldAL : Statement .ldAL := of_ble rfl
theorem ldAMemHl : Statement .ldAMemHl := of_ble rfl
theorem ldAA : Statement .ldAA := of_ble rfl
theorem addAB : Statement .addAB := of_ble rfl
theorem addAC : Statement .addAC := of_ble rfl
theorem addAD : Statement .addAD := of_ble rfl
theorem addAE : Statement .addAE := of_ble rfl
theorem addAH : Statement .addAH := of_ble rfl
theorem addAL : Statement .addAL := of_ble rfl
theorem addAMemHl : Statement .addAMemHl := of_ble rfl
theorem addAA : Statement .addAA := of_ble rfl
theorem adcAB : Statement .adcAB := of_ble rfl
theorem adcAC : Statement .adcAC := of_ble rfl
theorem adcAD : Statement .adcAD := of_ble rfl
theorem adcAE : Statement .adcAE := of_ble rfl
theorem adcAH : Statement .adcAH := of_ble rfl
theorem adcAL : Statement .adcAL := of_ble rfl
theorem adcAMemHl : Statement .adcAMemHl := of_ble rfl
theorem adcAA : Statement .adcAA := of_ble rfl
theorem subB : Statement .subB := of_ble rfl
theorem subC : Statement .subC := of_ble rfl
theorem subD : Statement .subD := of_ble rfl
theorem subE : Statement .subE := of_ble rfl
theorem subH : Statement .subH := of_ble rfl
theorem subL : Statement .subL := of_ble rfl
theorem subMemHl : Statement .subMemHl := of_ble rfl
theorem subA : Statement .subA := of_ble rfl
theorem sbcAB : Statement .sbcAB := of_ble rfl
theorem sbcAC : Statement .sbcAC := of_ble rfl
theorem sbcAD : Statement .sbcAD := of_ble rfl
theorem sbcAE : Statement .sbcAE := of_ble rfl
theorem sbcAH : Statement .sbcAH := of_ble rfl
theorem sbcAL : Statement .sbcAL := of_ble rfl
theorem sbcAMemHl : Statement .sbcAMemHl := of_ble rfl
theorem sbcAA : Statement .sbcAA := of_ble rfl
theorem andB : Statement .andB := of_ble rfl
theorem andC : Statement .andC := of_ble rfl
theorem andD : Statement .andD := of_ble rfl
theorem andE : Statement .andE := of_ble rfl
theorem andH : Statement .andH := of_ble rfl
theorem andL : Statement .andL := of_ble rfl
theorem andMemHl : Statement .andMemHl := of_ble rfl
theorem andA : Statement .andA := of_ble rfl
theorem xorB : Statement .xorB := of_ble rfl
theorem xorC : Statement .xorC := of_ble rfl
theorem xorD : Statement .xorD := of_ble rfl
theorem xorE : Statement .xorE := of_ble rfl
theorem xorH : Statement .xorH := of_ble rfl
theorem xorL : Statement .xorL := of_ble rfl
theorem xorMemHl : Statement .xorMemHl := of_ble rfl
theorem xorA : Statement .xorA := of_ble rfl
theorem orB : Statement .orB := of_ble rfl
theorem orC : Statement .orC := of_ble rfl
theorem orD : Statement .orD := of_ble rfl
theorem orE : Statement .orE := of_ble rfl
theorem orH : Statement .orH := of_ble rfl
theorem orL : Statement .orL := of_ble rfl
theorem orMemHl : Statement .orMemHl := of_ble rfl
theorem orA : Statement .orA := of_ble rfl
theorem cpB : Statement .cpB := of_ble rfl
theorem cpC : Statement .cpC := of_ble rfl
theorem cpD : Statement .cpD := of_ble rfl
theorem cpE : Statement .cpE := of_ble rfl
theorem cpH : Statement .cpH := of_ble rfl
theorem cpL : Statement .cpL := of_ble rfl
theorem cpMemHl : Statement .cpMemHl := of_ble rfl
theorem cpA : Statement .cpA := of_ble rfl
theorem retNz : Statement .retNz := of_ble rfl
theorem popBc : Statement .popBc := of_ble rfl
theorem pushBc : Statement .pushBc := of_ble rfl
theorem rst00 : Statement .rst00 := of_ble rfl
theorem retZ : Statement .retZ := of_ble rfl
theorem ret : Statement .ret := of_ble rfl
theorem prefixCb : Statement .prefixCb := of_ble rfl
theorem rst08 : Statement .rst08 := of_ble rfl
theorem retNc : Statement .retNc := of_ble rfl
theorem popDe : Statement .popDe := of_ble rfl
theorem undefD3 : Statement .undefD3 := of_ble rfl
theorem pushDe : Statement .pushDe := of_ble rfl
theorem rst10 : Statement .rst10 := of_ble rfl
theorem retC : Statement .retC := of_ble rfl
theorem reti : Statement .reti := of_ble rfl
theorem undefDB : Statement .undefDB := of_ble rfl
theorem undefDD : Statement .undefDD := of_ble rfl
theorem rst18 : Statement .rst18 := of_ble rfl
theorem popHl : Statement .popHl := of_ble rfl
theorem ldMemCA : Statement .ldMemCA := of_ble rfl
theorem undefE3 : Statement .undefE3 := of_ble rfl
theorem undefE4 : Statement .undefE4 := of_ble rfl
theorem pushHl : Statement .pushHl := of_ble rfl
theorem rst20 : Statement .rst20 := of_ble rfl
theorem jpHl : Statement .jpHl := of_ble rfl
theorem undefEB : Statement .undefEB := of_ble rfl
theorem undefEC : Statement .undefEC := of_ble rfl
theorem undefED : Statement .undefED := of_ble rfl
theorem rst28 : Statement .rst28 := of_ble rfl
theorem popAf : Statement .popAf := of_ble rfl
theorem ldAMemC : Statement .ldAMemC := of_ble rfl
theorem di : Statement .di := of_ble rfl
theorem undefF4 : Statement .undefF4 := of_ble rfl
theorem pushAf : Statement .pushAf := of_ble rfl
theorem rst30 : Statement .rst30 := of_ble rfl
theorem ldSpHl : Statement .ldSpHl := of_ble rfl
theorem ei : Statement .ei := of_ble rfl
theorem undefFC : Statement .undefFC := of_ble rfl
theorem undefFD : Statement .undefFD := of_ble rfl
theorem rst38 : Statement .rst38 := of_ble rfl
theorem rlcB : Statement .rlcB := of_ble rfl
theorem rlcC : Statement .rlcC := of_ble rfl
theorem rlcD : Statement .rlcD := of_ble rfl
theorem rlcE : Statement .rlcE := of_ble rfl
theorem rlcH : Statement .rlcH := of_ble rfl
theorem rlcL : Statement .rlcL := of_ble rfl
theorem rlcMemHl : Statement .rlcMemHl := of_ble rfl
theorem rlcA : Statement .rlcA := of_ble rfl
theorem rrcB : Statement .rrcB := of_ble rfl
theorem rrcC : Statement .rrcC := of_ble rfl
theorem rrcD : Statement .rrcD := of_ble rfl
theorem rrcE : Statement .rrcE := of_ble rfl
theorem rrcH : Statement .rrcH := of_ble rfl
theorem rrcL : Statement .rrcL := of_ble rfl
theorem rrcMemHl : Statement .rrcMemHl := of_ble rfl
theorem rrcA : Statement .rrcA := of_ble rfl
theorem rlB : Statement .rlB := of_ble rfl
theorem rlC : Statement .rlC := of_ble rfl
theorem rlD : Statement .rlD := of_ble rfl
theorem rlE : Statement .rlE := of_ble rfl
theorem rlH : Statement .rlH := of_ble rfl
theorem rlL : Statement .rlL := of_ble rfl
theorem rlMemHl : Statement .rlMemHl := of_ble rfl
theorem rlA : Statement .rlA := of_ble rfl
theorem rrB : Statement .rrB := of_ble rfl
theorem rrC : Statement .rrC := of_ble rfl
theorem rrD : Statement .rrD := of_ble rfl
theorem rrE : Statement .rrE := of_ble rfl
theorem rrH : Statement .rrH := of_ble rfl
theorem rrL : Statement .rrL := of_ble rfl
theorem rrMemHl : Statement .rrMemHl := of_ble rfl
theorem rrA : Statement .rrA := of_ble rfl
theorem slaB : Statement .slaB := of_ble rfl
theorem slaC : Statement .slaC := of_ble rfl
theorem slaD : Statement .slaD := of_ble rfl
theorem slaE : Statement .slaE := of_ble rfl
theorem slaH : Statement .slaH := of_ble rfl
theorem slaL : Statement .slaL := of_ble rfl
theorem slaMemHl : Statement .slaMemHl := of_ble rfl
theorem slaA : Statement .slaA := of_ble rfl
theorem sraB : Statement .sraB := of_ble rfl
theorem sraC : Statement .sraC := of_ble rfl
theorem sraD : Statement .sraD := of_ble rfl
theorem sraE : Statement .sraE := of_ble rfl
theorem sraH : Statement .sraH := of_ble rfl
theorem sraL : Statement .sraL := of_ble rfl
theorem sraMemHl : Statement .sraMemHl := of_ble rfl
theorem sraA : Statement .sraA := of_ble rfl
theorem swapB : Statement .swapB := of_ble rfl
theorem swapC : Statement .swapC := of_ble rfl
theorem swapD : Statement .swapD := of_ble rfl
theorem swapE : Statement .swapE := of_ble rfl
theorem swapH : Statement .swapH := of_ble rfl
theorem swapL : Statement .swapL := of_ble rfl
theorem swapMemHl : Statement .swapMemHl := of_ble rfl
theorem swapA : Statement .swapA := of_ble rfl
theorem srlB : Statement .srlB := of_ble rfl
theorem srlC : Statement .srlC := of_ble rfl
theorem srlD : Statement .srlD := of_ble rfl
theorem srlE : Statement .srlE := of_ble rfl
theorem srlH : Statement .srlH := of_ble rfl
theorem srlL : Statement .srlL := of_ble rfl
theorem srlMemHl : Statement .srlMemHl := of_ble rfl
theorem srlA : Statement .srlA := of_ble rfl
theorem bit0B : Statement .bit0B := of_ble rfl
theorem bit0C : Statement .bit0C := of_ble rfl
theorem bit0D : Statement .bit0D := of_ble rfl
theorem bit0E : Statement .bit0E := of_ble rfl
theorem bit0H : Statement .bit0H := of_ble rfl
theorem bit0L : Statement .bit0L := of_ble rfl
theorem bit0MemHl : Statement .bit0MemHl := of_ble rfl
theorem bit0A : Statement .bit0A := of_ble rfl
theorem bit1B : Statement .bit1B := of_ble rfl
theorem bit1C : Statement .bit1C := of_ble rfl
theorem bit1D : Statement .bit1D := of_ble rfl
theorem bit1E : Statement .bit1E := of_ble rfl
theorem bit1H : Statement .bit1H := of_ble rfl
theorem bit1L : Statement .bit1L := of_ble rfl
theorem bit1MemHl : Statement .bit1MemHl := of_ble rfl
theorem bit1A : Statement .bit1A := of_ble rfl
theorem bit2B : Statement .bit2B := of_ble rfl
theorem bit2C : Statement .bit2C := of_ble rfl
theorem bit2D : Statement .bit2D := of_ble rfl
theorem bit2E : Statement .bit2E := of_ble rfl
theorem bit2H : Statement .bit2H := of_ble rfl
theorem bit2L : Statement .bit2L := of_ble rfl
theorem bit2MemHl : Statement .bit2MemHl := of_ble rfl
theorem bit2A : Statement .bit2A := of_ble rfl
theorem bit3B : Statement .bit3B := of_ble rfl
theorem bit3C : Statement .bit3C := of_ble rfl
theorem bit3D : Statement .bit3D := of_ble rfl
theorem bit3E : Statement .bit3E := of_ble rfl
theorem bit3H : Statement .bit3H := of_ble rfl
theorem bit3L : Statement .bit3L := of_ble rfl
theorem bit3MemHl : Statement .bit3MemHl := of_ble rfl
theorem bit3A : Statement .bit3A := of_ble rfl
theorem bit4B : Statement .bit4B := of_ble rfl
theorem bit4C : Statement .bit4C := of_ble rfl
theorem bit4D : Statement .bit4D := of_ble rfl
theorem bit4E : Statement .bit4E := of_ble rfl
theorem bit4H : Statement .bit4H := of_ble rfl
theorem bit4L : Statement .bit4L := of_ble rfl
theorem bit4MemHl : Statement .bit4MemHl := of_ble rfl
theorem bit4A : Statement .bit4A := of_ble rfl
theorem bit5B : Statement .bit5B := of_ble rfl
theorem bit5C : Statement .bit5C := of_ble rfl
theorem bit5D : Statement .bit5D := of_ble rfl
theorem bit5E : Statement .bit5E := of_ble rfl
theorem bit5H : Statement .bit5H := of_ble rfl
theorem bit5L : Statement .bit5L := of_ble rfl
theorem bit5MemHl : Statement .bit5MemHl := of_ble rfl
theorem bit5A : Statement .bit5A := of_ble rfl
theorem bit6B : Statement .bit6B := of_ble rfl
theorem bit6C : Statement .bit6C := of_ble rfl
theorem bit6D : Statement .bit6D := of_ble rfl
theorem bit6E : Statement .bit6E := of_ble rfl
theorem bit6H : Statement .bit6H := of_ble rfl
theorem bit6L : Statement .bit6L := of_ble rfl
theorem bit6MemHl : Statement .bit6MemHl := of_ble rfl
theorem bit6A : Statement .bit6A := of_ble rfl
theorem bit7B : Statement .bit7B := of_ble rfl
theorem bit7C : Statement .bit7C := of_ble rfl
theorem bit7D : Statement .bit7D := of_ble rfl
theorem bit7E : Statement .bit7E := of_ble rfl
theorem bit7H : Statement .bit7H := of_ble rfl
theorem bit7L : Statement .bit7L := of_ble rfl
theorem bit7MemHl : Statement .bit7MemHl := of_ble rfl
theorem bit7A : Statement .bit7A := of_ble rfl
theorem res0B : Statement .res0B := of_ble rfl
theorem res0C : Statement .res0C := of_ble rfl
theorem res0D : Statement .res0D := of_ble rfl
theorem res0E : Statement .res0E := of_ble rfl
theorem res0H : Statement .res0H := of_ble rfl
theorem res0L : Statement .res0L := of_ble rfl
theorem res0MemHl : Statement .res0MemHl := of_ble rfl
theorem res0A : Statement .res0A := of_ble rfl
theorem res1B : Statement .res1B := of_ble rfl
theorem res1C : Statement .res1C := of_ble rfl
theorem res1D : Statement .res1D := of_ble rfl
theorem res1E : Statement .res1E := of_ble rfl
theorem res1H : Statement .res1H := of_ble rfl
theorem res1L : Statement .res1L := of_ble rfl
theorem res1MemHl : Statement .res1MemHl := of_ble rfl
theorem res1A : Statement .res1A := of_ble rfl
theorem res2B : Statement .res2B := of_ble rfl
theorem res2C : Statement .res2C := of_ble rfl
theorem res2D : Statement .res2D := of_ble rfl
theorem res2E : Statement .res2E := of_ble rfl
theorem res2H : Statement .res2H := of_ble rfl
theorem res2L : Statement .res2L := of_ble rfl
theorem res2MemHl : Statement .res2MemHl := of_ble rfl
theorem res2A : Statement .res2A := of_ble rfl
theorem res3B : Statement .res3B := of_ble rfl
theorem res3C : Statement .res3C := of_ble rfl
theorem res3D : Statement .res3D := of_ble rfl
theorem res3E : Statement .res3E := of_ble rfl
theorem res3H : Statement .res3H := of_ble rfl
theorem res3L : Statement .res3L := of_ble rfl
theorem res3MemHl : Statement .res3MemHl := of_ble rfl
theorem res3A : Statement .res3A := of_ble rfl
theorem res4B : Statement .res4B := of_ble rfl
theorem res4C : Statement .res4C := of_ble rfl
theorem res4D : Statement .res4D := of_ble rfl
theorem res4E : Statement .res4E := of_ble rfl
theorem res4H : Statement .res4H := of_ble rfl
theorem res4L : Statement .res4L := of_ble rfl
theorem res4MemHl : Statement .res4MemHl := of_ble rfl
theorem res4A : Statement .res4A := of_ble rfl
theorem res5B : Statement .res5B := of_ble rfl
theorem res5C : Statement .res5C := of_ble rfl
theorem res5D : Statement .res5D := of_ble rfl
theorem res5E : Statement .res5E := of_ble rfl
theorem res5H : Statement .res5H := of_ble rfl
theorem res5L : Statement .res5L := of_ble rfl
theorem res5MemHl : Statement .res5MemHl := of_ble rfl
theorem res5A : Statement .res5A := of_ble rfl
theorem res6B : Statement .res6B := of_ble rfl
theorem res6C : Statement .res6C := of_ble rfl
theorem res6D : Statement .res6D := of_ble rfl
theorem res6E : Statement .res6E := of_ble rfl
theorem res6H : Statement .res6H := of_ble rfl
theorem res6L : Statement .res6L := of_ble rfl
theorem res6MemHl : Statement .res6MemHl := of_ble rfl
theorem res6A : Statement .res6A := of_ble rfl
theorem res7B : Statement .res7B := of_ble rfl
theorem res7C : Statement .res7C := of_ble rfl
theorem res7D : Statement .res7D := of_ble rfl
theorem res7E : Statement .res7E := of_ble rfl
theorem res7H : Statement .res7H := of_ble rfl
theorem res7L : Statement .res7L := of_ble rfl
theorem res7MemHl : Statement .res7MemHl := of_ble rfl
theorem res7A : Statement .res7A := of_ble rfl
theorem set0B : Statement .set0B := of_ble rfl
theorem set0C : Statement .set0C := of_ble rfl
theorem set0D : Statement .set0D := of_ble rfl
theorem set0E : Statement .set0E := of_ble rfl
theorem set0H : Statement .set0H := of_ble rfl
theorem set0L : Statement .set0L := of_ble rfl
theorem set0MemHl : Statement .set0MemHl := of_ble rfl
theorem set0A : Statement .set0A := of_ble rfl
theorem set1B : Statement .set1B := of_ble rfl
theorem set1C : Statement .set1C := of_ble rfl
theorem set1D : Statement .set1D := of_ble rfl
theorem set1E : Statement .set1E := of_ble rfl
theorem set1H : Statement .set1H := of_ble rfl
theorem set1L : Statement .set1L := of_ble rfl
theorem set1MemHl : Statement .set1MemHl := of_ble rfl
theorem set1A : Statement .set1A := of_ble rfl
theorem set2B : Statement .set2B := of_ble rfl
theorem set2C : Statement .set2C := of_ble rfl
theorem set2D : Statement .set2D := of_ble rfl
theorem set2E : Statement .set2E := of_ble rfl
theorem set2H : Statement .set2H := of_ble rfl
theorem set2L : Statement .set2L := of_ble rfl
theorem set2MemHl : Statement .set2MemHl := of_ble rfl
theorem set2A : Statement .set2A := of_ble rfl
theorem set3B : Statement .set3B := of_ble rfl
theorem set3C : Statement .set3C := of_ble rfl
theorem set3D : Statement .set3D := of_ble rfl
theorem set3E : Statement .set3E := of_ble rfl
theorem set3H : Statement .set3H := of_ble rfl
theorem set3L : Statement .set3L := of_ble rfl
theorem set3MemHl : Statement .set3MemHl := of_ble rfl
theorem set3A : Statement .set3A := of_ble rfl
theorem set4B : Statement .set4B := of_ble rfl
theorem set4C : Statement .set4C := of_ble rfl
theorem set4D : Statement .set4D := of_ble rfl
theorem set4E : Statement .set4E := of_ble rfl
theorem set4H : Statement .set4H := of_ble rfl
theorem set4L : Statement .set4L := of_ble rfl
theorem set4MemHl : Statement .set4MemHl := of_ble rfl
theorem set4A : Statement .set4A := of_ble rfl
theorem set5B : Statement .set5B := of_ble rfl
theorem set5C : Statement .set5C := of_ble rfl
theorem set5D : Statement .set5D := of_ble rfl
theorem set5E : Statement .set5E := of_ble rfl
theorem set5H : Statement .set5H := of_ble rfl
theorem set5L : Statement .set5L := of_ble rfl
theorem set5MemHl : Statement .set5MemHl := of_ble rfl
theorem set5A : Statement .set5A := of_ble rfl
theorem set6B : Statement .set6B := of_ble rfl
theorem set6C : Statement .set6C := of_ble rfl
theorem set6D : Statement .set6D := of_ble rfl
theorem set6E : Statement .set6E := of_ble rfl
theorem set6H : Statement .set6H := of_ble rfl
theorem set6L : Statement .set6L := of_ble rfl
theorem set6MemHl : Statement .set6MemHl := of_ble rfl
theorem set6A : Statement .set6A := of_ble rfl
theorem set7B : Statement .set7B := of_ble rfl
theorem set7C : Statement .set7C := of_ble rfl
theorem set7D : Statement .set7D := of_ble rfl
theorem set7E : Statement .set7E := of_ble rfl
theorem set7H : Statement .set7H := of_ble rfl
theorem set7L : Statement .set7L := of_ble rfl
theorem set7MemHl : Statement .set7MemHl := of_ble rfl
theorem set7A : Statement .set7A := of_ble rfl

end Sys2Proof.Laws.EncodeLength
end

