-- ==== Sys2Proof/Laws/Regions.lean ====
section
/-! SUPPORT. The bus by region (spec/20_memory.md R71 to R73): what a read and a write come to in each range of the
address map, and the register table. -/

namespace Sys2Proof.Machine

/-! ## Reads -/

theorem State.busRead_rom {s : State} {x : Word} (h : x.toNat ≤ 0x7FFF) : s.busRead x = s.cart.read x.toNat := by
  simp only [State.busRead]; rw [if_pos h]

theorem State.busRead_vram {s : State} {x : Word} (h1 : 0x8000 ≤ x.toNat) (h2 : x.toNat ≤ 0x9FFF) :
    s.busRead x = Memory.read s.ppu.vram (x.toNat - 0x8000) := by
  simp only [State.busRead]; rw [if_neg (by omega), if_pos h2]

theorem State.busRead_xram {s : State} {x : Word} (h1 : 0xA000 ≤ x.toNat) (h2 : x.toNat ≤ 0xBFFF) :
    s.busRead x = s.cart.ramRead x.toNat := by
  simp only [State.busRead]
  iterate 2 rw [if_neg (by omega)]
  rw [if_pos h2]

theorem State.busRead_wram {s : State} {x : Word} (h1 : 0xC000 ≤ x.toNat) (h2 : x.toNat ≤ 0xDFFF) :
    s.busRead x = Memory.read s.wram (x.toNat - 0xC000) := by
  simp only [State.busRead]
  iterate 3 rw [if_neg (by omega)]
  rw [if_pos h2]

theorem State.busRead_echo {s : State} {x : Word} (h1 : 0xE000 ≤ x.toNat) (h2 : x.toNat ≤ 0xFDFF) :
    s.busRead x = Memory.read s.wram (x.toNat - 0x2000 - 0xC000) := by
  simp only [State.busRead]
  iterate 4 rw [if_neg (by omega)]
  rw [if_pos h2]

theorem State.busRead_oam {s : State} {x : Word} (h1 : 0xFE00 ≤ x.toNat) (h2 : x.toNat ≤ 0xFE9F) :
    s.busRead x = Memory.read s.ppu.oam (x.toNat - 0xFE00) := by
  simp only [State.busRead]
  iterate 5 rw [if_neg (by omega)]
  rw [if_pos h2]

theorem State.busRead_unusable {s : State} {x : Word} (h1 : 0xFEA0 ≤ x.toNat) (h2 : x.toNat ≤ 0xFEFF) :
    s.busRead x = 0xFF := by
  simp only [State.busRead]
  iterate 6 rw [if_neg (by omega)]
  rw [if_pos h2]

theorem State.busRead_io {s : State} {x : Word} (h1 : 0xFF00 ≤ x.toNat) (h2 : x.toNat ≤ 0xFF7F) :
    s.busRead x = s.ioRead x.toNat := by
  simp only [State.busRead]
  iterate 7 rw [if_neg (by omega)]
  rw [if_pos h2]

theorem State.busRead_hram {s : State} {x : Word} (h1 : 0xFF80 ≤ x.toNat) (h2 : x.toNat ≤ 0xFFFE) :
    s.busRead x = Memory.read s.hram (x.toNat - 0xFF80) := by
  simp only [State.busRead]
  iterate 8 rw [if_neg (by omega)]
  rw [if_pos h2]

theorem State.busRead_ie {s : State} {x : Word} (h1 : 0xFFFF ≤ x.toNat) : s.busRead x = s.ie.setWidth 8 := by
  simp only [State.busRead]
  iterate 9 rw [if_neg (by omega)]

/-- Two states that agree on what the region of `x` holds read alike at `x`. -/
theorem State.busRead_congr {s t : State} {x : Word}
    (rom : x.toNat ≤ 0x7FFF → t.cart.read x.toNat = s.cart.read x.toNat)
    (vram : 0x8000 ≤ x.toNat → x.toNat ≤ 0x9FFF →
      Memory.read t.ppu.vram (x.toNat - 0x8000) = Memory.read s.ppu.vram (x.toNat - 0x8000))
    (xram : 0xA000 ≤ x.toNat → x.toNat ≤ 0xBFFF → t.cart.ramRead x.toNat = s.cart.ramRead x.toNat)
    (wram : 0xC000 ≤ x.toNat → x.toNat ≤ 0xDFFF →
      Memory.read t.wram (x.toNat - 0xC000) = Memory.read s.wram (x.toNat - 0xC000))
    (echo : 0xE000 ≤ x.toNat → x.toNat ≤ 0xFDFF →
      Memory.read t.wram (x.toNat - 0x2000 - 0xC000) = Memory.read s.wram (x.toNat - 0x2000 - 0xC000))
    (oam : 0xFE00 ≤ x.toNat → x.toNat ≤ 0xFE9F →
      Memory.read t.ppu.oam (x.toNat - 0xFE00) = Memory.read s.ppu.oam (x.toNat - 0xFE00))
    (io : 0xFF00 ≤ x.toNat → x.toNat ≤ 0xFF7F → t.ioRead x.toNat = s.ioRead x.toNat)
    (hram : 0xFF80 ≤ x.toNat → x.toNat ≤ 0xFFFE →
      Memory.read t.hram (x.toNat - 0xFF80) = Memory.read s.hram (x.toNat - 0xFF80))
    (ie : 0xFFFF ≤ x.toNat → t.ie = s.ie) : t.busRead x = s.busRead x := by
  rcases Nat.lt_or_ge 0x7FFF x.toNat with h1 | h1
  · rcases Nat.lt_or_ge 0x9FFF x.toNat with h2 | h2
    · rcases Nat.lt_or_ge 0xBFFF x.toNat with h3 | h3
      · rcases Nat.lt_or_ge 0xDFFF x.toNat with h4 | h4
        · rcases Nat.lt_or_ge 0xFDFF x.toNat with h5 | h5
          · rcases Nat.lt_or_ge 0xFE9F x.toNat with h6 | h6
            · rcases Nat.lt_or_ge 0xFEFF x.toNat with h7 | h7
              · rcases Nat.lt_or_ge 0xFF7F x.toNat with h8 | h8
                · rcases Nat.lt_or_ge 0xFFFE x.toNat with h9 | h9
                  · rw [State.busRead_ie h9, State.busRead_ie h9, ie h9]
                  · rw [State.busRead_hram h8 h9, State.busRead_hram h8 h9, hram h8 h9]
                · rw [State.busRead_io h7 h8, State.busRead_io h7 h8, io h7 h8]
              · rw [State.busRead_unusable h6 h7, State.busRead_unusable h6 h7]
            · rw [State.busRead_oam h5 h6, State.busRead_oam h5 h6, oam h5 h6]
          · rw [State.busRead_echo h4 h5, State.busRead_echo h4 h5, echo h4 h5]
        · rw [State.busRead_wram h3 h4, State.busRead_wram h3 h4, wram h3 h4]
      · rw [State.busRead_xram h2 h3, State.busRead_xram h2 h3, xram h2 h3]
    · rw [State.busRead_vram h1 h2, State.busRead_vram h1 h2, vram h1 h2]
  · rw [State.busRead_rom h1, State.busRead_rom h1, rom h1]

/-! ## Writes -/

theorem State.busWrite_rom {s : State} {a : Word} {v : Byte} (h : a.toNat ≤ 0x7FFF) :
    s.busWrite a v = { s with cart := s.cart.write a.toNat v } := by
  simp only [State.busWrite]; rw [if_pos h]

theorem State.busWrite_vram {s : State} {a : Word} {v : Byte} (h1 : 0x8000 ≤ a.toNat) (h2 : a.toNat ≤ 0x9FFF) :
    s.busWrite a v = { s with ppu := { s.ppu with vram := Memory.write s.ppu.vram (a.toNat - 0x8000) v } } := by
  simp only [State.busWrite]; rw [if_neg (by omega), if_pos h2]

theorem State.busWrite_xram {s : State} {a : Word} {v : Byte} (h1 : 0xA000 ≤ a.toNat) (h2 : a.toNat ≤ 0xBFFF) :
    s.busWrite a v = { s with cart := s.cart.ramWrite a.toNat v } := by
  simp only [State.busWrite]
  iterate 2 rw [if_neg (by omega)]
  rw [if_pos h2]

theorem State.busWrite_wram {s : State} {a : Word} {v : Byte} (h1 : 0xC000 ≤ a.toNat) (h2 : a.toNat ≤ 0xDFFF) :
    s.busWrite a v = { s with wram := Memory.write s.wram (a.toNat - 0xC000) v } := by
  simp only [State.busWrite]
  iterate 3 rw [if_neg (by omega)]
  rw [if_pos h2]

theorem State.busWrite_echo {s : State} {a : Word} {v : Byte} (h1 : 0xE000 ≤ a.toNat) (h2 : a.toNat ≤ 0xFDFF) :
    s.busWrite a v = { s with wram := Memory.write s.wram (a.toNat - 0x2000 - 0xC000) v } := by
  simp only [State.busWrite]
  iterate 4 rw [if_neg (by omega)]
  rw [if_pos h2]

theorem State.busWrite_oam {s : State} {a : Word} {v : Byte} (h1 : 0xFE00 ≤ a.toNat) (h2 : a.toNat ≤ 0xFE9F) :
    s.busWrite a v = s.setOam (a.toNat - 0xFE00) v := by
  simp only [State.busWrite]
  iterate 5 rw [if_neg (by omega)]
  rw [if_pos h2]

theorem State.busWrite_unusable {s : State} {a : Word} {v : Byte} (h1 : 0xFEA0 ≤ a.toNat) (h2 : a.toNat ≤ 0xFEFF) :
    s.busWrite a v = s := by
  simp only [State.busWrite]
  iterate 6 rw [if_neg (by omega)]
  rw [if_pos h2]

theorem State.busWrite_io {s : State} {a : Word} {v : Byte} (h1 : 0xFF00 ≤ a.toNat) (h2 : a.toNat ≤ 0xFF7F) :
    s.busWrite a v = s.ioWrite a.toNat v := by
  simp only [State.busWrite]
  iterate 7 rw [if_neg (by omega)]
  rw [if_pos h2]

theorem State.busWrite_hram {s : State} {a : Word} {v : Byte} (h1 : 0xFF80 ≤ a.toNat) (h2 : a.toNat ≤ 0xFFFE) :
    s.busWrite a v = { s with hram := Memory.write s.hram (a.toNat - 0xFF80) v } := by
  simp only [State.busWrite]
  iterate 8 rw [if_neg (by omega)]
  rw [if_pos h2]

theorem State.busWrite_ie {s : State} {a : Word} {v : Byte} (h1 : 0xFFFF ≤ a.toNat) :
    s.busWrite a v = { s with ie := v.setWidth 5 } := by
  simp only [State.busWrite]
  iterate 9 rw [if_neg (by omega)]

/-- A proof about a bus write, region by region. -/
theorem State.busWrite_cases {P : State → Prop} (s : State) (a : Word) (v : Byte)
    (rom : a.toNat ≤ 0x7FFF → P { s with cart := s.cart.write a.toNat v })
    (vram : 0x8000 ≤ a.toNat → a.toNat ≤ 0x9FFF →
      P { s with ppu := { s.ppu with vram := Memory.write s.ppu.vram (a.toNat - 0x8000) v } })
    (xram : 0xA000 ≤ a.toNat → a.toNat ≤ 0xBFFF → P { s with cart := s.cart.ramWrite a.toNat v })
    (wram : 0xC000 ≤ a.toNat → a.toNat ≤ 0xDFFF → P { s with wram := Memory.write s.wram (a.toNat - 0xC000) v })
    (echo : 0xE000 ≤ a.toNat → a.toNat ≤ 0xFDFF → P { s with wram := Memory.write s.wram (a.toNat - 0x2000 - 0xC000) v })
    (oam : 0xFE00 ≤ a.toNat → a.toNat ≤ 0xFE9F → P (s.setOam (a.toNat - 0xFE00) v))
    (unusable : 0xFEA0 ≤ a.toNat → a.toNat ≤ 0xFEFF → P s)
    (io : 0xFF00 ≤ a.toNat → a.toNat ≤ 0xFF7F → P (s.ioWrite a.toNat v))
    (hram : 0xFF80 ≤ a.toNat → a.toNat ≤ 0xFFFE → P { s with hram := Memory.write s.hram (a.toNat - 0xFF80) v })
    (ie : a.toNat = 0xFFFF → P { s with ie := v.setWidth 5 }) : P (s.busWrite a v) := by
  have ha := a.isLt
  rcases Nat.lt_or_ge 0x7FFF a.toNat with h1 | h1
  · rcases Nat.lt_or_ge 0x9FFF a.toNat with h2 | h2
    · rcases Nat.lt_or_ge 0xBFFF a.toNat with h3 | h3
      · rcases Nat.lt_or_ge 0xDFFF a.toNat with h4 | h4
        · rcases Nat.lt_or_ge 0xFDFF a.toNat with h5 | h5
          · rcases Nat.lt_or_ge 0xFE9F a.toNat with h6 | h6
            · rcases Nat.lt_or_ge 0xFEFF a.toNat with h7 | h7
              · rcases Nat.lt_or_ge 0xFF7F a.toNat with h8 | h8
                · rcases Nat.lt_or_ge 0xFFFE a.toNat with h9 | h9
                  · rw [State.busWrite_ie h9]; exact ie (by omega)
                  · rw [State.busWrite_hram h8 h9]; exact hram h8 h9
                · rw [State.busWrite_io h7 h8]; exact io h7 h8
              · rw [State.busWrite_unusable h6 h7]; exact unusable h6 h7
            · rw [State.busWrite_oam h5 h6]; exact oam h5 h6
          · rw [State.busWrite_echo h4 h5]; exact echo h4 h5
        · rw [State.busWrite_wram h3 h4]; exact wram h3 h4
      · rw [State.busWrite_xram h2 h3]; exact xram h2 h3
    · rw [State.busWrite_vram h1 h2]; exact vram h1 h2
  · rw [State.busWrite_rom h1]; exact rom h1

/-! ## The register table -/

theorem ioRegAt_addr (r : IoReg) : ioRegAt r.addr = some r := by cases r <;> rfl

theorem addr_of_ioRegAt {a : Nat} {r : IoReg} (h : ioRegAt a = some r) : r.addr = a := by
  simpa using List.find?_some h

/-- Reading a register after another register was written. -/
theorem State.ioRegRead_ioRegWrite (s : State) {q r : IoReg} (v : Byte) (h : q ≠ r) :
    (s.ioRegWrite r v).ioRegRead q = s.ioRegRead q := by
  cases r
  case sc => simp only [State.ioRegWrite]; split <;> rfl
  case dma => simp only [State.ioRegWrite]; rw [State.oamDma_eq]; cases q <;> simp only [State.ioRegRead]
  all_goals cases q <;> first | exact absurd rfl h | simp only [State.ioRegWrite, State.ioRegRead]

/-- Reading an I/O address after another one was written. -/
theorem State.ioRead_ioWrite (s : State) {a x : Nat} (v : Byte) (h : x ≠ a) : (s.ioWrite a v).ioRead x = s.ioRead x := by
  unfold State.ioRead
  cases hx : ioRegAt x with
  | none => rfl
  | some q =>
    unfold State.ioWrite
    cases ha : ioRegAt a with
    | none => rfl
    | some r =>
      apply State.ioRegRead_ioRegWrite
      rintro rfl
      exact h ((addr_of_ioRegAt hx).symm.trans (addr_of_ioRegAt ha))

/-- A register write leaves VRAM alone, and OAM too unless it is DMA. -/
theorem State.ioRegWrite_vram_oam (s : State) (r : IoReg) (v : Byte) :
    (s.ioRegWrite r v).ppu.vram = s.ppu.vram ∧ (r ≠ .dma → (s.ioRegWrite r v).ppu.oam = s.ppu.oam) := by
  cases r
  case sc => simp only [State.ioRegWrite]; split <;> simp
  case dma => simp only [State.ioRegWrite]; rw [State.oamDma_eq]; simp
  all_goals simp [State.ioRegWrite]

theorem State.ioWrite_vram_oam (s : State) (a : Nat) (v : Byte) :
    (s.ioWrite a v).ppu.vram = s.ppu.vram ∧ (a ≠ 0xFF46 → (s.ioWrite a v).ppu.oam = s.ppu.oam) := by
  unfold State.ioWrite
  cases ha : ioRegAt a with
  | none => simp
  | some r =>
    refine ⟨(State.ioRegWrite_vram_oam s r v).1, fun h => (State.ioRegWrite_vram_oam s r v).2 ?_⟩
    rintro rfl
    exact h (addr_of_ioRegAt ha).symm

end Sys2Proof.Machine
end

