-- ==== Sys2Proof/Laws/Safe.lean ====
section
/-! SUPPORT. Every memory operation keeps the canonical form of the memories it touches, and the bus, the timer, the
rasteriser and the PPU keep a safe state safe. -/

namespace Sys2Proof.Machine

/-! ## The parts of a safe state -/

theorem State.wf_iff {s : State} :
    State.wf s = true ↔ s.cart.wf = true ∧ s.ppu.wf = true ∧ Memory.sized Config.wramSize s.wram = true ∧
      Memory.sized Config.hramSize s.hram = true ∧ s.timer.divTimer < 256 := by
  simp [State.wf, and_assoc]

theorem Cartridge.wf_iff {c : Cartridge} :
    c.wf = true ↔ Config.minRomLen ≤ c.romLen ∧ [0, 2048, 8192, 32768].contains c.ramLen = true ∧
      Memory.sized c.romLen c.rom = true ∧ Memory.sized c.ramLen c.xram = true ∧ c.controller.wf = true := by
  simp only [Cartridge.wf, Bool.and_eq_true, decide_eq_true_eq, and_assoc]

/-- Safety does not look at the CPU. -/
@[simp] theorem State.wf_setCpu (s : State) (c : Cpu) : State.wf { s with cpu := c } = State.wf s := rfl

/-! ## Memories of a known size -/

theorem Memory.sized_wf {size : Nat} {m : Memory} (h : Memory.sized size m = true) : Memory.wf m = true := by
  simp only [Memory.sized, Bool.and_eq_true] at h; exact h.1

theorem Memory.sized_nil (size : Nat) : Memory.sized size [] = true := rfl

theorem Memory.sized_ofBytes (vs : List Byte) : Memory.sized vs.length (Memory.ofBytes 0 vs) = true := by
  simp only [Memory.sized, Bool.and_eq_true]
  exact ⟨Memory.ofBytes_wf 0 vs, Memory.ofBytes_below 0 vs (by omega)⟩

/-! ## Cartridge -/

theorem Cartridge.ramOffset_lt {c : Cartridge} {a o : Nat} (h : c.ramOffset a = some o) : o < c.ramLen := by
  unfold Cartridge.ramOffset at h
  split at h
  · cases h
  · split at h
    · next hr =>
        simp only [Option.some.injEq] at h
        subst h
        simp only [Bool.and_eq_true, bne_iff_ne] at hr
        exact Nat.mod_lt _ (by omega)
    · cases h

/-- Control writes never leave `rom_bank_lo` at 0 (20_memory.md R106). -/
theorem Cartridge.write_wf {c : Cartridge} (h : c.wf = true) (a : Nat) (v : Byte) : (c.write a v).wf = true := by
  obtain ⟨h1, h2, h3, h4, h5⟩ := Cartridge.wf_iff.1 h
  unfold Cartridge.write
  split
  · exact h
  · next r hr =>
      refine Cartridge.wf_iff.2 ⟨h1, h2, h3, h4, ?_⟩
      rw [hr] at h5
      simp only [Controller.wf, bne_iff_ne] at h5 ⊢
      unfold Mbc1.write
      repeat' split
      all_goals first | exact h5 | skip
      all_goals simp_all

theorem Cartridge.ramWrite_wf {c : Cartridge} (h : c.wf = true) (a : Nat) (v : Byte) : (c.ramWrite a v).wf = true := by
  obtain ⟨h1, h2, h3, h4, h5⟩ := Cartridge.wf_iff.1 h
  unfold Cartridge.ramWrite
  split
  · next o ho => exact Cartridge.wf_iff.2 ⟨h1, h2, h3, Memory.write_sized h4 (Cartridge.ramOffset_lt ho) v, h5⟩
  · exact h

/-! ## Bus writes -/

theorem Ppu.wf_oam {p : Ppu} (h : p.wf = true) : Memory.sized Config.oamSize p.oam = true := by
  simp only [Ppu.wf, Bool.and_eq_true] at h; exact h.1.1.1.1.1.2

theorem Ppu.wf_vram {p : Ppu} (h : p.wf = true) : Memory.sized Config.vramSize p.vram = true := by
  simp only [Ppu.wf, Bool.and_eq_true] at h; exact h.1.1.1.1.1.1

theorem Ppu.wf_setOam {p : Ppu} (h : p.wf = true) {m : Memory} (hm : Memory.sized Config.oamSize m = true) :
    Ppu.wf { p with oam := m } = true := by
  simp only [Ppu.wf, Bool.and_eq_true, Ppu.mode] at h ⊢
  exact ⟨⟨⟨⟨⟨⟨h.1.1.1.1.1.1, hm⟩, h.1.1.1.1.2⟩, h.1.1.1.2⟩, h.1.1.2⟩, h.1.2⟩, h.2⟩

theorem Ppu.wf_setVram {p : Ppu} (h : p.wf = true) {m : Memory} (hm : Memory.sized Config.vramSize m = true) :
    Ppu.wf { p with vram := m } = true := by
  simp only [Ppu.wf, Bool.and_eq_true, Ppu.mode] at h ⊢
  exact ⟨⟨⟨⟨⟨⟨hm, h.1.1.1.1.1.2⟩, h.1.1.1.1.2⟩, h.1.1.1.2⟩, h.1.1.2⟩, h.1.2⟩, h.2⟩

theorem State.setOam_wf {s : State} (h : State.wf s = true) {i : Nat} (hi : i < 160) (v : Byte) :
    State.wf (s.setOam i v) = true := by
  obtain ⟨h1, h2, h3, h4, h5⟩ := State.wf_iff.1 h
  exact State.wf_iff.2 ⟨h1, Ppu.wf_setOam h2 (Memory.write_sized (Ppu.wf_oam h2) hi v), h3, h4, h5⟩

theorem State.oamDma_wf {s : State} (h : State.wf s = true) (v : Byte) : State.wf (s.oamDma v) = true := by
  unfold State.oamDma
  have key : ∀ (l : List Nat) (t : State), (∀ i ∈ l, i < 160) → State.wf t = true →
      State.wf (l.foldl (fun t i => t.setOam i (t.busRead (BitVec.ofNat 16 (v.toNat * 0x100 + i)))) t) = true := by
    intro l
    induction l with
    | nil => intro t _ ht; exact ht
    | cons i l ih =>
      intro t hl ht
      exact ih _ (fun j hj => hl j (by simp [hj])) (State.setOam_wf ht (hl i (by simp)) _)
  exact key _ s (fun i hi => List.mem_range.1 hi) h

/-- STAT writes leave the mode bits (10_state.md R37). -/
theorem stat_write_mode (x : BitVec 7) (v : Byte) :
    ((x &&& 0x07) ||| (v.setWidth 7 &&& 0x78)).extractLsb' 0 2 = x.extractLsb' 0 2 := by
  refine BitVec.eq_of_getLsbD_eq fun i hi => ?_
  have : i = 0 ∨ i = 1 := by omega
  rcases this with rfl | rfl <;> simp

theorem State.ioRegWrite_wf {s : State} (h : State.wf s = true) (r : IoReg) (v : Byte) :
    State.wf (s.ioRegWrite r v) = true := by
  cases r
  case sc => simp only [State.ioRegWrite]; split <;> exact h
  case dma => exact State.oamDma_wf h v
  case stat =>
    obtain ⟨h1, h2, h3, h4, h5⟩ := State.wf_iff.1 h
    refine State.wf_iff.2 ⟨h1, ?_, h3, h4, h5⟩
    simp only [State.ioRegWrite, Ppu.wf, Ppu.mode, stat_write_mode] at h2 ⊢
    exact h2
  all_goals exact h

theorem State.ioWrite_wf {s : State} (h : State.wf s = true) (a : Nat) (v : Byte) : State.wf (s.ioWrite a v) = true := by
  unfold State.ioWrite
  split
  · exact State.ioRegWrite_wf h _ v
  · exact h

/-- A bus write keeps a safe state safe, so every memory in its canonical form. -/
theorem State.busWrite_wf {s : State} (h : State.wf s = true) (a : Word) (v : Byte) : State.wf (s.busWrite a v) = true := by
  obtain ⟨h1, h2, h3, h4, h5⟩ := State.wf_iff.1 h
  refine State.busWrite_cases (P := fun t => State.wf t = true) s a v ?_ ?_ ?_ ?_ ?_ ?_ ?_ ?_ ?_ ?_
  · intro _; exact State.wf_iff.2 ⟨Cartridge.write_wf h1 _ v, h2, h3, h4, h5⟩
  · intro _ _
    exact State.wf_iff.2 ⟨h1, Ppu.wf_setVram h2 (Memory.write_sized (Ppu.wf_vram h2) (by simp [Config.vramSize]; omega) v),
      h3, h4, h5⟩
  · intro _ _; exact State.wf_iff.2 ⟨Cartridge.ramWrite_wf h1 _ v, h2, h3, h4, h5⟩
  · intro _ _; exact State.wf_iff.2 ⟨h1, h2, Memory.write_sized h3 (by simp [Config.wramSize]; omega) v, h4, h5⟩
  · intro _ _; exact State.wf_iff.2 ⟨h1, h2, Memory.write_sized h3 (by simp [Config.wramSize]; omega) v, h4, h5⟩
  · intro _ _; exact State.setOam_wf h (by omega) v
  · intro _ _; exact h
  · intro _ _; exact State.ioWrite_wf h _ v
  · intro _ _; exact State.wf_iff.2 ⟨h1, h2, h3, Memory.write_sized h4 (by simp [Config.hramSize]; omega) v, h5⟩
  · intro _; exact h

theorem State.busWrites_wf {s : State} (h : State.wf s = true) (ws : List (Word × Byte)) :
    State.wf (s.busWrites ws) = true := by
  unfold State.busWrites
  induction ws generalizing s with
  | nil => exact h
  | cons w ws ih => exact ih (State.busWrite_wf h w.1 w.2)

/-! ## The timer -/

theorem State.timaIncrement_wf {s : State} (h : State.wf s = true) : State.wf s.timaIncrement = true := by
  unfold State.timaIncrement
  split <;> exact h

theorem State.timaIncrements_wf {s : State} (h : State.wf s = true) (n : Nat) :
    State.wf (State.timaIncrements n s) = true := by
  induction n generalizing s with
  | zero => exact h
  | succ n ih => exact ih (State.timaIncrement_wf h)

/-- The timer keeps a safe state safe: `DivTimer` stays below 256 (10_state.md R52). -/
theorem State.timerAdvance_wf {s : State} (h : State.wf s = true) (d : Nat) : State.wf (State.timerAdvance d s) = true := by
  obtain ⟨h1, h2, h3, h4, h5⟩ := State.wf_iff.1 h
  have hd : State.wf (State.divAdvance d s) = true :=
    State.wf_iff.2 ⟨h1, h2, h3, h4, Nat.mod_lt _ (by omega)⟩
  unfold State.timerAdvance State.timaAdvance
  generalize State.divAdvance d s = t at hd
  obtain ⟨g1, g2, g3, g4, g5⟩ := State.wf_iff.1 hd
  simp only
  split
  · apply State.timaIncrements_wf
    exact State.wf_iff.2 ⟨g1, g2, g3, g4, g5⟩
  · exact State.wf_iff.2 ⟨g1, g2, g3, g4, g5⟩

/-! ## The rasteriser -/

/-- What the rasteriser's passes keep of a PPU: the framebuffer stays canonical, within its size and shade, and no
field but the framebuffer and the priority buffer changes. -/
structure Ppu.Drawn (p q : Ppu) : Prop where
  fb : Memory.sized (Config.screenWidth * Config.screenHeight) p.fb = true → p.fb.all (fun c => c.2.toNat < 4) = true →
    Memory.sized (Config.screenWidth * Config.screenHeight) q.fb = true ∧ q.fb.all (fun c => c.2.toNat < 4) = true
  rest : q = { p with fb := q.fb, pri := q.pri }

theorem Ppu.Drawn.refl (p : Ppu) : Ppu.Drawn p p := ⟨fun h1 h2 => ⟨h1, h2⟩, rfl⟩

theorem Ppu.Drawn.trans {p q r : Ppu} (h1 : Ppu.Drawn p q) (h2 : Ppu.Drawn q r) : Ppu.Drawn p r := by
  refine ⟨fun a b => h2.fb (h1.fb a b).1 (h1.fb a b).2, ?_⟩
  have := h2.rest
  rw [h1.rest] at this
  exact this

theorem Ppu.drawn_setSlot (p : Ppu) (x : Nat) (v : PriSlot) : Ppu.Drawn p (p.setSlot x v) :=
  ⟨fun h1 h2 => ⟨h1, h2⟩, rfl⟩

theorem pal_lt (reg : Byte) (k : Nat) : (pal reg k).toNat < 4 := by
  have : (pal reg k).toNat ≤ (3#8).toNat := by
    unfold pal
    rw [BitVec.toNat_and]
    exact Nat.and_le_right
  have h3 : (3#8).toNat = 3 := rfl
  omega

theorem Ppu.drawn_setFb (p : Ppu) {row x : Nat} (hr : row < 144) (hx : x < 160) (reg : Byte) (k : Nat) :
    Ppu.Drawn p (p.setFb row x (pal reg k)) := by
  refine ⟨fun h1 h2 => ⟨Memory.write_sized h1 (by simp only [Config.screenWidth, Config.screenHeight]; omega) _, ?_⟩, rfl⟩
  exact Memory.write_all (p := fun b => decide (b.toNat < 4)) h2 _ (by simpa using pal_lt reg k)

theorem Ppu.drawn_foldl {α : Type} (f : Ppu → α → Ppu) (l : List α) (p : Ppu)
    (h : ∀ q, ∀ a ∈ l, Ppu.Drawn q (f q a)) : Ppu.Drawn p (l.foldl f p) := by
  induction l generalizing p with
  | nil => exact Ppu.Drawn.refl p
  | cons a l ih => exact (h p a (by simp)).trans (ih (f p a) fun q b hb => h q b (by simp [hb]))

theorem Ppu.drawn_bgPass (p : Ppu) {row : Nat} (hr : row < 144) : Ppu.Drawn p (Ppu.bgPass row p) := by
  refine Ppu.drawn_foldl _ _ p fun q x hx => ?_
  have hx := List.mem_range.1 hx
  unfold Ppu.bgPixel
  simp only
  split
  · exact Ppu.drawn_setFb q hr hx _ _
  · exact (Ppu.drawn_setFb q hr hx _ _).trans (Ppu.drawn_setSlot _ _ _)

theorem Ppu.drawn_drawSprite (p : Ppu) {row : Nat} (hr : row < 144) (o : Sprite) : Ppu.Drawn p (Ppu.drawSprite row p o) := by
  refine Ppu.drawn_foldl _ _ p fun q i _ => ?_
  unfold Ppu.spritePixel
  simp only
  split
  · exact Ppu.Drawn.refl q
  · next hsx =>
      simp only [Bool.or_eq_true, decide_eq_true_eq, not_or, not_lt, ge_iff_le, not_le] at hsx
      split
      · exact Ppu.Drawn.refl q
      split
      · exact Ppu.Drawn.refl q
      split
      · exact Ppu.Drawn.refl q
      · exact (Ppu.drawn_setFb q hr (by omega) _ _).trans (Ppu.drawn_setSlot _ _ _)

/-- Drawing a row keeps the framebuffer canonical, inside its size and in shades 0 to 3 (10_state.md R50). -/
theorem Ppu.drawn_rasteriseRow (p : Ppu) {row : Nat} (hr : row < 144) : Ppu.Drawn p (p.rasteriseRow row) := by
  have h0 : Ppu.Drawn p { p with pri := Vector.replicate 160 .undrawn } := ⟨fun h1 h2 => ⟨h1, h2⟩, rfl⟩
  refine (h0.trans (Ppu.drawn_bgPass _ hr)).trans ?_
  exact Ppu.drawn_foldl _ _ _ fun q o _ => Ppu.drawn_drawSprite q hr o

/-! ## Reset -/

theorem Cartridge.blank_wf : Cartridge.blank.wf = true := by decide

theorem Cartridge.load_wf {image : List Byte} {c : Cartridge} (h : Cartridge.load image = .ok c) : c.wf = true := by
  unfold Cartridge.load at h
  split at h
  · cases h
  · next hl =>
      have hl : 0x8000 ≤ image.length := by simpa [Config.minRomLen] using hl
      have key : ∀ k : Controller, k.wf = true →
          (Cartridge.mk (Memory.ofBytes 0 image) image.length k (ramLenOfCode (image.getD 0x149 0)) []).wf = true := by
        intro k hk
        refine Cartridge.wf_iff.2 ⟨hl, ?_, Memory.sized_ofBytes image, Memory.sized_nil _, hk⟩
        show [0, 2048, 8192, 32768].contains (ramLenOfCode _) = true
        unfold ramLenOfCode
        split <;> rfl
      simp only at h
      split at h <;> first | (cases h; exact key _ (by decide)) | cases h

end Sys2Proof.Machine
end

