-- ==== Sys2Proof/Tests/Slice0.lean ====
section
/-! SUPPORT. This model's own tests: the check of well-formedness, decoding of every row, single steps from the spec's
test vectors, and for every statement with hypotheses a state and operands that meet them. -/

namespace Sys2Proof.Tests

open Sys2Proof Sys2Proof.Machine

/-- The four flags from the vectors' notation `ZNHC=abcd`. -/
def znhc (z n h c : Nat) : Flags := { z := z == 1, n := n == 1, h := h == 1, c := c == 1 }

/-- The reset state with a CPU, and with bytes placed in memory: the starts of 95_test_vectors.md. -/
def start (c : Cpu) (mem : List (Word × Byte)) : State :=
  mem.foldl (fun s m => s.place m.1 m.2) { State.reset with cpu := c }

/-- One CPU step from a start, the instruction's bytes standing at `PC`: the state after it and its cost. -/
def ran (c : Cpu) (mem : List (Word × Byte)) (bytes : List Byte) : Option (State × Nat) :=
  match ((start c mem).placeAll c.pc bytes).cpuStep with
  | .next r => some r
  | _ => none

/-! ## Well-formedness -/

/-- The bare prefix is refused (R131, R306). -/
theorem test_wellFormed_refuses_bare_cb : Instr.wellFormed .prefixCb = false := rfl

/-- A lone CB byte decodes to the bare prefix, which is no whole instruction. -/
theorem test_decode_lone_cb : decode [0xCB] = .ok (.prefixCb, []) := rfl

/-- Operand bytes that are missing are refused by name. -/
theorem test_decode_truncated : decode [] = .error .noOpcode ∧ decode [0x06] = .error (.truncated 0x06) ∧
    decode [0xC3, 0x50] = .error (.truncated 0xC3) := ⟨rfl, rfl, rfl⟩

/-- One word of each family, written bit by bit from its encoding (30_encoding.md R132 to R137 and the rule of each). -/
theorem test_decode_bits :
    [
      [0b01000001], [0b00111110, 0x05], [0b01100110], [0b01110011], [0b00010001, 0x34, 0x12], [0b11110101],
      [0b11010001], [0b10011100], [0b10110110], [0b11100110, 0x38], [0b00100100], [0b00101101], [0b00111001],
      [0b00000011], [0b00101011], [0b11011010, 0x34, 0x12], [0b00110000, 0x02], [0b11001100, 0x34, 0x12],
      [0b11000000], [0b11101111], [0b11001011, 0b00010101], [0b11001011, 0b00101110], [0b11001011, 0b01100101],
      [0b11001011, 0b01000110], [0b11001011, 0b10111111], [0b11001011, 0b10001110], [0b11001011, 0b11011000],
      [0b11001011, 0b11111110]].map decode =
    [
      Instr.ldRR .b .c, Instr.ldRN .a 0x05, Instr.ldRHl .h, Instr.ldHlR .e, Instr.ldPairNN .de 0x1234,
      Instr.push .af, Instr.pop .de, Instr.aluR .sbc .h, Instr.aluHl .or, Instr.aluN .and 0x38, Instr.incR .h,
      Instr.decR .l, Instr.addHl .sp, Instr.incPair .bc, Instr.decPair .hl, Instr.jpCc .c 0x1234,
      Instr.jrCc .nc 0x02, Instr.callCc .z 0x1234, Instr.retCc .nz, Instr.rst 5, Instr.rotR .rl .l,
      Instr.rotHl .sra, Instr.bitR 4 .l, Instr.bitHl 0, Instr.resR 7 .a, Instr.resHl 1, Instr.setR 3 .b,
      Instr.setHl 7].map (fun i => Except.ok (i, [])) := rfl

/-! ## Every row, by a word written out from its encoding (30_encoding.md R141 to R144) -/

theorem test_decode_primary_0 :
    [
      [0x00], [0x01, 0x34, 0x12], [0x02], [0x03], [0x04], [0x05], [0x06, 0x9C], [0x07], [0x08, 0x34, 0x12], [0x09],
      [0x0A], [0x0B], [0x0C], [0x0D], [0x0E, 0x9C], [0x0F]].map decode =
    [
      .nop, .ldBcD16 0x1234, .ldMemBcA, .incBc, .incB, .decB, .ldBD8 0x9C, .rlca, .ldMemA16Sp 0x1234, .addHlBc,
      .ldAMemBc, .decBc, .incC, .decC, .ldCD8 0x9C, .rrca].map (fun i => Except.ok (i, [])) := rfl

theorem test_decode_primary_1 :
    [
      [0x10, 0x9C], [0x11, 0x34, 0x12], [0x12], [0x13], [0x14], [0x15], [0x16, 0x9C], [0x17], [0x18, 0x9C], [0x19],
      [0x1A], [0x1B], [0x1C], [0x1D], [0x1E, 0x9C], [0x1F]].map decode =
    [
      .stop 0x9C, .ldDeD16 0x1234, .ldMemDeA, .incDe, .incD, .decD, .ldDD8 0x9C, .rla, .jrE8 0x9C, .addHlDe,
      .ldAMemDe, .decDe, .incE, .decE, .ldED8 0x9C, .rra].map (fun i => Except.ok (i, [])) := rfl

theorem test_decode_primary_2 :
    [
      [0x20, 0x9C], [0x21, 0x34, 0x12], [0x22], [0x23], [0x24], [0x25], [0x26, 0x9C], [0x27], [0x28, 0x9C], [0x29],
      [0x2A], [0x2B], [0x2C], [0x2D], [0x2E, 0x9C], [0x2F]].map decode =
    [
      .jrNzE8 0x9C, .ldHlD16 0x1234, .ldMemHlIncA, .incHl, .incH, .decH, .ldHD8 0x9C, .daa, .jrZE8 0x9C, .addHlHl,
      .ldAMemHlInc, .decHl, .incL, .decL, .ldLD8 0x9C, .cpl].map (fun i => Except.ok (i, [])) := rfl

theorem test_decode_primary_3 :
    [
      [0x30, 0x9C], [0x31, 0x34, 0x12], [0x32], [0x33], [0x34], [0x35], [0x36, 0x9C], [0x37], [0x38, 0x9C], [0x39],
      [0x3A], [0x3B], [0x3C], [0x3D], [0x3E, 0x9C], [0x3F]].map decode =
    [
      .jrNcE8 0x9C, .ldSpD16 0x1234, .ldMemHlDecA, .incSp, .incMemHl, .decMemHl, .ldMemHlD8 0x9C, .scf,
      .jrCE8 0x9C, .addHlSp, .ldAMemHlDec, .decSp, .incA, .decA, .ldAD8 0x9C, .ccf].map (fun i => Except.ok (i, [])) := rfl

theorem test_decode_primary_4 :
    [
      [0x40], [0x41], [0x42], [0x43], [0x44], [0x45], [0x46], [0x47], [0x48], [0x49], [0x4A], [0x4B], [0x4C],
      [0x4D], [0x4E], [0x4F]].map decode =
    [
      .ldBB, .ldBC, .ldBD, .ldBE, .ldBH, .ldBL, .ldBMemHl, .ldBA, .ldCB, .ldCC, .ldCD, .ldCE, .ldCH, .ldCL,
      .ldCMemHl, .ldCA].map (fun i => Except.ok (i, [])) := rfl

theorem test_decode_primary_5 :
    [
      [0x50], [0x51], [0x52], [0x53], [0x54], [0x55], [0x56], [0x57], [0x58], [0x59], [0x5A], [0x5B], [0x5C],
      [0x5D], [0x5E], [0x5F]].map decode =
    [
      .ldDB, .ldDC, .ldDD, .ldDE, .ldDH, .ldDL, .ldDMemHl, .ldDA, .ldEB, .ldEC, .ldED, .ldEE, .ldEH, .ldEL,
      .ldEMemHl, .ldEA].map (fun i => Except.ok (i, [])) := rfl

theorem test_decode_primary_6 :
    [
      [0x60], [0x61], [0x62], [0x63], [0x64], [0x65], [0x66], [0x67], [0x68], [0x69], [0x6A], [0x6B], [0x6C],
      [0x6D], [0x6E], [0x6F]].map decode =
    [
      .ldHB, .ldHC, .ldHD, .ldHE, .ldHH, .ldHL, .ldHMemHl, .ldHA, .ldLB, .ldLC, .ldLD, .ldLE, .ldLH, .ldLL,
      .ldLMemHl, .ldLA].map (fun i => Except.ok (i, [])) := rfl

theorem test_decode_primary_7 :
    [
      [0x70], [0x71], [0x72], [0x73], [0x74], [0x75], [0x76], [0x77], [0x78], [0x79], [0x7A], [0x7B], [0x7C],
      [0x7D], [0x7E], [0x7F]].map decode =
    [
      .ldMemHlB, .ldMemHlC, .ldMemHlD, .ldMemHlE, .ldMemHlH, .ldMemHlL, .halt, .ldMemHlA, .ldAB, .ldAC, .ldAD,
      .ldAE, .ldAH, .ldAL, .ldAMemHl, .ldAA].map (fun i => Except.ok (i, [])) := rfl

theorem test_decode_primary_8 :
    [
      [0x80], [0x81], [0x82], [0x83], [0x84], [0x85], [0x86], [0x87], [0x88], [0x89], [0x8A], [0x8B], [0x8C],
      [0x8D], [0x8E], [0x8F]].map decode =
    [
      .addAB, .addAC, .addAD, .addAE, .addAH, .addAL, .addAMemHl, .addAA, .adcAB, .adcAC, .adcAD, .adcAE, .adcAH,
      .adcAL, .adcAMemHl, .adcAA].map (fun i => Except.ok (i, [])) := rfl

theorem test_decode_primary_9 :
    [
      [0x90], [0x91], [0x92], [0x93], [0x94], [0x95], [0x96], [0x97], [0x98], [0x99], [0x9A], [0x9B], [0x9C],
      [0x9D], [0x9E], [0x9F]].map decode =
    [
      .subB, .subC, .subD, .subE, .subH, .subL, .subMemHl, .subA, .sbcAB, .sbcAC, .sbcAD, .sbcAE, .sbcAH, .sbcAL,
      .sbcAMemHl, .sbcAA].map (fun i => Except.ok (i, [])) := rfl

theorem test_decode_primary_A :
    [
      [0xA0], [0xA1], [0xA2], [0xA3], [0xA4], [0xA5], [0xA6], [0xA7], [0xA8], [0xA9], [0xAA], [0xAB], [0xAC],
      [0xAD], [0xAE], [0xAF]].map decode =
    [
      .andB, .andC, .andD, .andE, .andH, .andL, .andMemHl, .andA, .xorB, .xorC, .xorD, .xorE, .xorH, .xorL,
      .xorMemHl, .xorA].map (fun i => Except.ok (i, [])) := rfl

theorem test_decode_primary_B :
    [
      [0xB0], [0xB1], [0xB2], [0xB3], [0xB4], [0xB5], [0xB6], [0xB7], [0xB8], [0xB9], [0xBA], [0xBB], [0xBC],
      [0xBD], [0xBE], [0xBF]].map decode =
    [
      .orB, .orC, .orD, .orE, .orH, .orL, .orMemHl, .orA, .cpB, .cpC, .cpD, .cpE, .cpH, .cpL, .cpMemHl, .cpA].map (fun i => Except.ok (i, [])) := rfl

theorem test_decode_primary_C :
    [
      [0xC0], [0xC1], [0xC2, 0x34, 0x12], [0xC3, 0x34, 0x12], [0xC4, 0x34, 0x12], [0xC5], [0xC6, 0x9C], [0xC7],
      [0xC8], [0xC9], [0xCA, 0x34, 0x12], [0xCC, 0x34, 0x12], [0xCD, 0x34, 0x12], [0xCE, 0x9C], [0xCF]].map decode =
    [
      .retNz, .popBc, .jpNzA16 0x1234, .jpA16 0x1234, .callNzA16 0x1234, .pushBc, .addAD8 0x9C, .rst00, .retZ,
      .ret, .jpZA16 0x1234, .callZA16 0x1234, .callA16 0x1234, .adcAD8 0x9C, .rst08].map (fun i => Except.ok (i, [])) := rfl

theorem test_decode_primary_D :
    [
      [0xD0], [0xD1], [0xD2, 0x34, 0x12], [0xD3], [0xD4, 0x34, 0x12], [0xD5], [0xD6, 0x9C], [0xD7], [0xD8], [0xD9],
      [0xDA, 0x34, 0x12], [0xDB], [0xDC, 0x34, 0x12], [0xDD], [0xDE, 0x9C], [0xDF]].map decode =
    [
      .retNc, .popDe, .jpNcA16 0x1234, .undefD3, .callNcA16 0x1234, .pushDe, .subD8 0x9C, .rst10, .retC, .reti,
      .jpCA16 0x1234, .undefDB, .callCA16 0x1234, .undefDD, .sbcAD8 0x9C, .rst18].map (fun i => Except.ok (i, [])) := rfl

theorem test_decode_primary_E :
    [
      [0xE0, 0x9C], [0xE1], [0xE2], [0xE3], [0xE4], [0xE5], [0xE6, 0x9C], [0xE7], [0xE8, 0x9C], [0xE9],
      [0xEA, 0x34, 0x12], [0xEB], [0xEC], [0xED], [0xEE, 0x9C], [0xEF]].map decode =
    [
      .ldhMemA8A 0x9C, .popHl, .ldMemCA, .undefE3, .undefE4, .pushHl, .andD8 0x9C, .rst20, .addSpE8 0x9C, .jpHl,
      .ldMemA16A 0x1234, .undefEB, .undefEC, .undefED, .xorD8 0x9C, .rst28].map (fun i => Except.ok (i, [])) := rfl

theorem test_decode_primary_F :
    [
      [0xF0, 0x9C], [0xF1], [0xF2], [0xF3], [0xF4], [0xF5], [0xF6, 0x9C], [0xF7], [0xF8, 0x9C], [0xF9],
      [0xFA, 0x34, 0x12], [0xFB], [0xFC], [0xFD], [0xFE, 0x9C], [0xFF]].map decode =
    [
      .ldhAMemA8 0x9C, .popAf, .ldAMemC, .di, .undefF4, .pushAf, .orD8 0x9C, .rst30, .ldHlSpE8 0x9C, .ldSpHl,
      .ldAMemA16 0x1234, .ei, .undefFC, .undefFD, .cpD8 0x9C, .rst38].map (fun i => Except.ok (i, [])) := rfl

theorem test_decode_cb_0 :
    [
      [0xCB, 0x00], [0xCB, 0x01], [0xCB, 0x02], [0xCB, 0x03], [0xCB, 0x04], [0xCB, 0x05], [0xCB, 0x06],
      [0xCB, 0x07], [0xCB, 0x08], [0xCB, 0x09], [0xCB, 0x0A], [0xCB, 0x0B], [0xCB, 0x0C], [0xCB, 0x0D],
      [0xCB, 0x0E], [0xCB, 0x0F]].map decode =
    [
      .rlcB, .rlcC, .rlcD, .rlcE, .rlcH, .rlcL, .rlcMemHl, .rlcA, .rrcB, .rrcC, .rrcD, .rrcE, .rrcH, .rrcL,
      .rrcMemHl, .rrcA].map (fun i => Except.ok (i, [])) := rfl

theorem test_decode_cb_1 :
    [
      [0xCB, 0x10], [0xCB, 0x11], [0xCB, 0x12], [0xCB, 0x13], [0xCB, 0x14], [0xCB, 0x15], [0xCB, 0x16],
      [0xCB, 0x17], [0xCB, 0x18], [0xCB, 0x19], [0xCB, 0x1A], [0xCB, 0x1B], [0xCB, 0x1C], [0xCB, 0x1D],
      [0xCB, 0x1E], [0xCB, 0x1F]].map decode =
    [
      .rlB, .rlC, .rlD, .rlE, .rlH, .rlL, .rlMemHl, .rlA, .rrB, .rrC, .rrD, .rrE, .rrH, .rrL, .rrMemHl, .rrA].map (fun i => Except.ok (i, [])) := rfl

theorem test_decode_cb_2 :
    [
      [0xCB, 0x20], [0xCB, 0x21], [0xCB, 0x22], [0xCB, 0x23], [0xCB, 0x24], [0xCB, 0x25], [0xCB, 0x26],
      [0xCB, 0x27], [0xCB, 0x28], [0xCB, 0x29], [0xCB, 0x2A], [0xCB, 0x2B], [0xCB, 0x2C], [0xCB, 0x2D],
      [0xCB, 0x2E], [0xCB, 0x2F]].map decode =
    [
      .slaB, .slaC, .slaD, .slaE, .slaH, .slaL, .slaMemHl, .slaA, .sraB, .sraC, .sraD, .sraE, .sraH, .sraL,
      .sraMemHl, .sraA].map (fun i => Except.ok (i, [])) := rfl

theorem test_decode_cb_3 :
    [
      [0xCB, 0x30], [0xCB, 0x31], [0xCB, 0x32], [0xCB, 0x33], [0xCB, 0x34], [0xCB, 0x35], [0xCB, 0x36],
      [0xCB, 0x37], [0xCB, 0x38], [0xCB, 0x39], [0xCB, 0x3A], [0xCB, 0x3B], [0xCB, 0x3C], [0xCB, 0x3D],
      [0xCB, 0x3E], [0xCB, 0x3F]].map decode =
    [
      .swapB, .swapC, .swapD, .swapE, .swapH, .swapL, .swapMemHl, .swapA, .srlB, .srlC, .srlD, .srlE, .srlH, .srlL,
      .srlMemHl, .srlA].map (fun i => Except.ok (i, [])) := rfl

theorem test_decode_cb_4 :
    [
      [0xCB, 0x40], [0xCB, 0x41], [0xCB, 0x42], [0xCB, 0x43], [0xCB, 0x44], [0xCB, 0x45], [0xCB, 0x46],
      [0xCB, 0x47], [0xCB, 0x48], [0xCB, 0x49], [0xCB, 0x4A], [0xCB, 0x4B], [0xCB, 0x4C], [0xCB, 0x4D],
      [0xCB, 0x4E], [0xCB, 0x4F]].map decode =
    [
      .bit0B, .bit0C, .bit0D, .bit0E, .bit0H, .bit0L, .bit0MemHl, .bit0A, .bit1B, .bit1C, .bit1D, .bit1E, .bit1H,
      .bit1L, .bit1MemHl, .bit1A].map (fun i => Except.ok (i, [])) := rfl

theorem test_decode_cb_5 :
    [
      [0xCB, 0x50], [0xCB, 0x51], [0xCB, 0x52], [0xCB, 0x53], [0xCB, 0x54], [0xCB, 0x55], [0xCB, 0x56],
      [0xCB, 0x57], [0xCB, 0x58], [0xCB, 0x59], [0xCB, 0x5A], [0xCB, 0x5B], [0xCB, 0x5C], [0xCB, 0x5D],
      [0xCB, 0x5E], [0xCB, 0x5F]].map decode =
    [
      .bit2B, .bit2C, .bit2D, .bit2E, .bit2H, .bit2L, .bit2MemHl, .bit2A, .bit3B, .bit3C, .bit3D, .bit3E, .bit3H,
      .bit3L, .bit3MemHl, .bit3A].map (fun i => Except.ok (i, [])) := rfl

theorem test_decode_cb_6 :
    [
      [0xCB, 0x60], [0xCB, 0x61], [0xCB, 0x62], [0xCB, 0x63], [0xCB, 0x64], [0xCB, 0x65], [0xCB, 0x66],
      [0xCB, 0x67], [0xCB, 0x68], [0xCB, 0x69], [0xCB, 0x6A], [0xCB, 0x6B], [0xCB, 0x6C], [0xCB, 0x6D],
      [0xCB, 0x6E], [0xCB, 0x6F]].map decode =
    [
      .bit4B, .bit4C, .bit4D, .bit4E, .bit4H, .bit4L, .bit4MemHl, .bit4A, .bit5B, .bit5C, .bit5D, .bit5E, .bit5H,
      .bit5L, .bit5MemHl, .bit5A].map (fun i => Except.ok (i, [])) := rfl

theorem test_decode_cb_7 :
    [
      [0xCB, 0x70], [0xCB, 0x71], [0xCB, 0x72], [0xCB, 0x73], [0xCB, 0x74], [0xCB, 0x75], [0xCB, 0x76],
      [0xCB, 0x77], [0xCB, 0x78], [0xCB, 0x79], [0xCB, 0x7A], [0xCB, 0x7B], [0xCB, 0x7C], [0xCB, 0x7D],
      [0xCB, 0x7E], [0xCB, 0x7F]].map decode =
    [
      .bit6B, .bit6C, .bit6D, .bit6E, .bit6H, .bit6L, .bit6MemHl, .bit6A, .bit7B, .bit7C, .bit7D, .bit7E, .bit7H,
      .bit7L, .bit7MemHl, .bit7A].map (fun i => Except.ok (i, [])) := rfl

theorem test_decode_cb_8 :
    [
      [0xCB, 0x80], [0xCB, 0x81], [0xCB, 0x82], [0xCB, 0x83], [0xCB, 0x84], [0xCB, 0x85], [0xCB, 0x86],
      [0xCB, 0x87], [0xCB, 0x88], [0xCB, 0x89], [0xCB, 0x8A], [0xCB, 0x8B], [0xCB, 0x8C], [0xCB, 0x8D],
      [0xCB, 0x8E], [0xCB, 0x8F]].map decode =
    [
      .res0B, .res0C, .res0D, .res0E, .res0H, .res0L, .res0MemHl, .res0A, .res1B, .res1C, .res1D, .res1E, .res1H,
      .res1L, .res1MemHl, .res1A].map (fun i => Except.ok (i, [])) := rfl

theorem test_decode_cb_9 :
    [
      [0xCB, 0x90], [0xCB, 0x91], [0xCB, 0x92], [0xCB, 0x93], [0xCB, 0x94], [0xCB, 0x95], [0xCB, 0x96],
      [0xCB, 0x97], [0xCB, 0x98], [0xCB, 0x99], [0xCB, 0x9A], [0xCB, 0x9B], [0xCB, 0x9C], [0xCB, 0x9D],
      [0xCB, 0x9E], [0xCB, 0x9F]].map decode =
    [
      .res2B, .res2C, .res2D, .res2E, .res2H, .res2L, .res2MemHl, .res2A, .res3B, .res3C, .res3D, .res3E, .res3H,
      .res3L, .res3MemHl, .res3A].map (fun i => Except.ok (i, [])) := rfl

theorem test_decode_cb_A :
    [
      [0xCB, 0xA0], [0xCB, 0xA1], [0xCB, 0xA2], [0xCB, 0xA3], [0xCB, 0xA4], [0xCB, 0xA5], [0xCB, 0xA6],
      [0xCB, 0xA7], [0xCB, 0xA8], [0xCB, 0xA9], [0xCB, 0xAA], [0xCB, 0xAB], [0xCB, 0xAC], [0xCB, 0xAD],
      [0xCB, 0xAE], [0xCB, 0xAF]].map decode =
    [
      .res4B, .res4C, .res4D, .res4E, .res4H, .res4L, .res4MemHl, .res4A, .res5B, .res5C, .res5D, .res5E, .res5H,
      .res5L, .res5MemHl, .res5A].map (fun i => Except.ok (i, [])) := rfl

theorem test_decode_cb_B :
    [
      [0xCB, 0xB0], [0xCB, 0xB1], [0xCB, 0xB2], [0xCB, 0xB3], [0xCB, 0xB4], [0xCB, 0xB5], [0xCB, 0xB6],
      [0xCB, 0xB7], [0xCB, 0xB8], [0xCB, 0xB9], [0xCB, 0xBA], [0xCB, 0xBB], [0xCB, 0xBC], [0xCB, 0xBD],
      [0xCB, 0xBE], [0xCB, 0xBF]].map decode =
    [
      .res6B, .res6C, .res6D, .res6E, .res6H, .res6L, .res6MemHl, .res6A, .res7B, .res7C, .res7D, .res7E, .res7H,
      .res7L, .res7MemHl, .res7A].map (fun i => Except.ok (i, [])) := rfl

theorem test_decode_cb_C :
    [
      [0xCB, 0xC0], [0xCB, 0xC1], [0xCB, 0xC2], [0xCB, 0xC3], [0xCB, 0xC4], [0xCB, 0xC5], [0xCB, 0xC6],
      [0xCB, 0xC7], [0xCB, 0xC8], [0xCB, 0xC9], [0xCB, 0xCA], [0xCB, 0xCB], [0xCB, 0xCC], [0xCB, 0xCD],
      [0xCB, 0xCE], [0xCB, 0xCF]].map decode =
    [
      .set0B, .set0C, .set0D, .set0E, .set0H, .set0L, .set0MemHl, .set0A, .set1B, .set1C, .set1D, .set1E, .set1H,
      .set1L, .set1MemHl, .set1A].map (fun i => Except.ok (i, [])) := rfl

theorem test_decode_cb_D :
    [
      [0xCB, 0xD0], [0xCB, 0xD1], [0xCB, 0xD2], [0xCB, 0xD3], [0xCB, 0xD4], [0xCB, 0xD5], [0xCB, 0xD6],
      [0xCB, 0xD7], [0xCB, 0xD8], [0xCB, 0xD9], [0xCB, 0xDA], [0xCB, 0xDB], [0xCB, 0xDC], [0xCB, 0xDD],
      [0xCB, 0xDE], [0xCB, 0xDF]].map decode =
    [
      .set2B, .set2C, .set2D, .set2E, .set2H, .set2L, .set2MemHl, .set2A, .set3B, .set3C, .set3D, .set3E, .set3H,
      .set3L, .set3MemHl, .set3A].map (fun i => Except.ok (i, [])) := rfl

theorem test_decode_cb_E :
    [
      [0xCB, 0xE0], [0xCB, 0xE1], [0xCB, 0xE2], [0xCB, 0xE3], [0xCB, 0xE4], [0xCB, 0xE5], [0xCB, 0xE6],
      [0xCB, 0xE7], [0xCB, 0xE8], [0xCB, 0xE9], [0xCB, 0xEA], [0xCB, 0xEB], [0xCB, 0xEC], [0xCB, 0xED],
      [0xCB, 0xEE], [0xCB, 0xEF]].map decode =
    [
      .set4B, .set4C, .set4D, .set4E, .set4H, .set4L, .set4MemHl, .set4A, .set5B, .set5C, .set5D, .set5E, .set5H,
      .set5L, .set5MemHl, .set5A].map (fun i => Except.ok (i, [])) := rfl

theorem test_decode_cb_F :
    [
      [0xCB, 0xF0], [0xCB, 0xF1], [0xCB, 0xF2], [0xCB, 0xF3], [0xCB, 0xF4], [0xCB, 0xF5], [0xCB, 0xF6],
      [0xCB, 0xF7], [0xCB, 0xF8], [0xCB, 0xF9], [0xCB, 0xFA], [0xCB, 0xFB], [0xCB, 0xFC], [0xCB, 0xFD],
      [0xCB, 0xFE], [0xCB, 0xFF]].map decode =
    [
      .set6B, .set6C, .set6D, .set6E, .set6H, .set6L, .set6MemHl, .set6A, .set7B, .set7C, .set7D, .set7E, .set7H,
      .set7L, .set7MemHl, .set7A].map (fun i => Except.ok (i, [])) := rfl

/-! ## One step each, from the vectors of 95_test_vectors.md (V1 to V7) -/

theorem test_step_ld_b_c :
    (ran { Cpu.reset with c := 0x5A } [] [0x41]).map
      (fun (s, k) => (s.cpu.b, s.cpu.f, s.cpu.pc, k)) =
      some (0x5A, znhc 1 0 1 1, 0x0101, 4) := by decide

theorem test_step_ld_c_d8 : (ran Cpu.reset [] [0x0E, 0xFF]).map (fun (s, k) => (s.cpu.c, s.cpu.f, s.cpu.pc, k)) =
      some (0xFF, znhc 1 0 1 1, 0x0102, 8) := by decide

theorem test_step_ld_d_memhl :
    (ran { Cpu.reset with h := 0xC1, l := 0x23 } [(0xC123, 0x9C)] [0x56]).map
      (fun (s, k) => (s.cpu.d, s.cpu.f, s.cpu.pc, k)) =
      some (0x9C, znhc 1 0 1 1, 0x0101, 8) := by decide

theorem test_step_ld_memhl_e :
    (ran { Cpu.reset with h := 0xC0, l := 0x10, e := 0x42 } [] [0x73]).map
      (fun (s, k) => (s.busRead 0xC010, s.cpu.f, s.cpu.pc, k)) =
      some (0x42, znhc 1 0 1 1, 0x0101, 8) := by decide

theorem test_step_ld_memhl_d8 :
    (ran { Cpu.reset with h := 0xFF, l := 0x80 } [] [0x36, 0x99]).map
      (fun (s, k) => (s.busRead 0xFF80, s.cpu.f, s.cpu.pc, k)) =
      some (0x99, znhc 1 0 1 1, 0x0102, 12) := by decide

theorem test_step_ld_a_membc :
    (ran { Cpu.reset with b := 0xC0, c := 0x01 } [(0xC001, 0x3C)] [0x0A]).map
      (fun (s, k) => (s.cpu.a, s.cpu.f, s.cpu.pc, k)) =
      some (0x3C, znhc 1 0 1 1, 0x0101, 8) := by decide

theorem test_step_ld_a_memde :
    (ran { Cpu.reset with d := 0xE0, e := 0x02 } [(0xC002, 0x7D)] [0x1A]).map
      (fun (s, k) => (s.cpu.a, s.cpu.f, s.cpu.pc, k)) =
      some (0x7D, znhc 1 0 1 1, 0x0101, 8) := by decide

theorem test_step_ld_membc_a :
    (ran { Cpu.reset with b := 0xFE, c := 0xA0, a := 0x55 } [] [0x02]).map
      (fun (s, k) => (s.cpu.f, s.cpu.pc, k)) =
      some (znhc 1 0 1 1, 0x0101, 8) := by decide

theorem test_step_ld_memde_a :
    (ran { Cpu.reset with d := 0x80, e := 0x00, a := 0xAA } [] [0x12]).map
      (fun (s, k) => (s.busRead 0x8000, s.cpu.f, s.cpu.pc, k)) =
      some (0xAA, znhc 1 0 1 1, 0x0101, 8) := by decide

theorem test_step_ld_a_mema16 :
    (ran Cpu.reset [(0xC234, 0x5E)] [0xFA, 0x34, 0xC2]).map
      (fun (s, k) => (s.cpu.a, s.cpu.f, s.cpu.pc, k)) =
      some (0x5E, znhc 1 0 1 1, 0x0103, 16) := by decide

theorem test_step_ld_mema16_a :
    (ran { Cpu.reset with a := 0x66 } [] [0xEA, 0x00, 0xE0]).map
      (fun (s, k) => (s.busRead 0xE000, s.cpu.f, s.cpu.pc, k)) =
      some (0x66, znhc 1 0 1 1, 0x0103, 16) := by decide

theorem test_step_ld_memhlinc_a :
    (ran { Cpu.reset with h := 0xC0, l := 0xFF, a := 0x12 } [] [0x22]).map
      (fun (s, k) => (s.cpu.h, s.cpu.l, s.busRead 0xC0FF, s.cpu.f, s.cpu.pc, k)) =
      some (0xC1, 0x00, 0x12, znhc 1 0 1 1, 0x0101, 8) := by decide

theorem test_step_ld_memhldec_a :
    (ran { Cpu.reset with h := 0xC1, l := 0x00, a := 0x34 } [] [0x32]).map
      (fun (s, k) => (s.cpu.h, s.cpu.l, s.busRead 0xC100, s.cpu.f, s.cpu.pc, k)) =
      some (0xC0, 0xFF, 0x34, znhc 1 0 1 1, 0x0101, 8) := by decide

theorem test_step_ld_a_memhlinc :
    (ran { Cpu.reset with h := 0xFF, l := 0xFF } [] [0x2A]).map
      (fun (s, k) => (s.cpu.a, s.cpu.h, s.cpu.l, s.cpu.f, s.cpu.pc, k)) =
      some (0x00, 0x00, 0x00, znhc 1 0 1 1, 0x0101, 8) := by decide

theorem test_step_ld_a_memhldec :
    (ran { Cpu.reset with h := 0x00, l := 0x00 } [] [0x3A]).map
      (fun (s, k) => (s.cpu.a, s.cpu.h, s.cpu.l, s.cpu.f, s.cpu.pc, k)) =
      some (0x00, 0xFF, 0xFF, znhc 1 0 1 1, 0x0101, 8) := by decide

theorem test_step_ldh_mema8_a :
    (ran { Cpu.reset with a := 0xFF } [] [0xE0, 0x07]).map
      (fun (s, k) => (s.busRead 0xFF07, s.cpu.f, s.cpu.pc, k)) =
      some (0x07, znhc 1 0 1 1, 0x0102, 12) := by decide

theorem test_step_ldh_a_mema8 :
    (ran Cpu.reset [(0xFF80, 0x21)] [0xF0, 0x80]).map
      (fun (s, k) => (s.cpu.a, s.cpu.f, s.cpu.pc, k)) =
      some (0x21, znhc 1 0 1 1, 0x0102, 12) := by decide

theorem test_step_ld_memc_a :
    (ran { Cpu.reset with c := 0xFF, a := 0xFF } [] [0xE2]).map
      (fun (s, k) => (s.busRead 0xFFFF, s.cpu.f, s.cpu.pc, k)) =
      some (0x1F, znhc 1 0 1 1, 0x0101, 8) := by decide

theorem test_step_ld_a_memc :
    (ran { Cpu.reset with c := 0x44 } [] [0xF2]).map
      (fun (s, k) => (s.cpu.a, s.cpu.f, s.cpu.pc, k)) =
      some (0x00, znhc 1 0 1 1, 0x0101, 8) := by decide

theorem test_step_ld_bc_d16 :
    (ran Cpu.reset [] [0x01, 0x34, 0x12]).map
      (fun (s, k) => (s.cpu.b, s.cpu.c, s.cpu.f, s.cpu.pc, k)) =
      some (0x12, 0x34, znhc 1 0 1 1, 0x0103, 12) := by decide

theorem test_step_ld_sp_hl :
    (ran { Cpu.reset with h := 0xC8, l := 0x00 } [] [0xF9]).map
      (fun (s, k) => (s.cpu.sp, s.cpu.f, s.cpu.pc, k)) =
      some (0xC800, znhc 1 0 1 1, 0x0101, 8) := by decide

theorem test_step_ld_mema16_sp :
    (ran { Cpu.reset with sp := 0xABCD } [] [0x08, 0xFF, 0xC0]).map
      (fun (s, k) => (s.busRead 0xC0FF, s.busRead 0xC100, s.cpu.f, s.cpu.pc, k)) =
      some (0xCD, 0xAB, znhc 1 0 1 1, 0x0103, 20) := by decide

theorem test_step_push_bc :
    (ran { Cpu.reset with b := 0x12, c := 0x34, sp := 0xD000 } [] [0xC5]).map
      (fun (s, k) => (s.cpu.sp, s.busRead 0xCFFF, s.busRead 0xCFFE, s.cpu.f, s.cpu.pc, k)) =
      some (0xCFFE, 0x12, 0x34, znhc 1 0 1 1, 0x0101, 16) := by decide

theorem test_step_pop_de :
    (ran { Cpu.reset with sp := 0xCFFE } [(0xCFFE, 0x78), (0xCFFF, 0x56)] [0xD1]).map
      (fun (s, k) => (s.cpu.d, s.cpu.e, s.cpu.sp, s.cpu.f, s.cpu.pc, k)) =
      some (0x56, 0x78, 0xD000, znhc 1 0 1 1, 0x0101, 12) := by decide

theorem test_step_pop_af :
    (ran { Cpu.reset with sp := 0xCFFE } [(0xCFFE, 0xFF), (0xCFFF, 0x12)] [0xF1]).map
      (fun (s, k) => (s.cpu.a, s.cpu.sp, s.cpu.f, s.cpu.pc, k)) =
      some (0x12, 0xD000, znhc 1 1 1 1, 0x0101, 12) := by decide

theorem test_step_ld_hl_sp_plus_e8 :
    (ran { Cpu.reset with sp := 0xFFF8 } [] [0xF8, 0x02]).map
      (fun (s, k) => (s.cpu.h, s.cpu.l, s.cpu.f, s.cpu.pc, k)) =
      some (0xFF, 0xFA, znhc 0 0 0 0, 0x0102, 12) := by decide

theorem test_step_ld_hl_sp_plus_e8_2 :
    (ran { Cpu.reset with sp := 0x0000 } [] [0xF8, 0xFF]).map
      (fun (s, k) => (s.cpu.h, s.cpu.l, s.cpu.f, s.cpu.pc, k)) =
      some (0xFF, 0xFF, znhc 0 0 0 0, 0x0102, 12) := by decide

theorem test_step_add_a_b :
    (ran { Cpu.reset with a := 0x05, b := 0x03, f := znhc 0 0 0 0 } [] [0x80]).map
      (fun (s, k) => (s.cpu.a, s.cpu.f, s.cpu.pc, k)) =
      some (0x08, znhc 0 0 0 0, 0x0101, 4) := by decide

theorem test_step_add_a_b_2 :
    (ran { Cpu.reset with a := 0xFF, b := 0x01, f := znhc 0 0 0 0 } [] [0x80]).map
      (fun (s, k) => (s.cpu.a, s.cpu.f, s.cpu.pc, k)) =
      some (0x00, znhc 1 0 1 1, 0x0101, 4) := by decide

theorem test_step_add_a_memhl :
    (ran { Cpu.reset with a := 0x70, h := 0xC0, l := 0x00, f := znhc 0 0 0 0 } [(0xC000, 0x90)] [0x86]).map
      (fun (s, k) => (s.cpu.a, s.cpu.f, s.cpu.pc, k)) =
      some (0x00, znhc 1 0 0 1, 0x0101, 8) := by decide

theorem test_step_add_a_d8 :
    (ran { Cpu.reset with a := 0x00, f := znhc 0 1 1 1 } [] [0xC6, 0x00]).map
      (fun (s, k) => (s.cpu.f, s.cpu.pc, k)) =
      some (znhc 1 0 0 0, 0x0102, 8) := by decide

theorem test_step_adc_a_b :
    (ran { Cpu.reset with a := 0xFF, b := 0x00, f := znhc 0 0 0 1 } [] [0x88]).map
      (fun (s, k) => (s.cpu.a, s.cpu.f, s.cpu.pc, k)) =
      some (0x00, znhc 1 0 1 1, 0x0101, 4) := by decide

theorem test_step_adc_a_b_2 :
    (ran { Cpu.reset with a := 0x0F, b := 0x00, f := znhc 0 0 0 1 } [] [0x88]).map
      (fun (s, k) => (s.cpu.a, s.cpu.f, s.cpu.pc, k)) =
      some (0x10, znhc 0 0 1 0, 0x0101, 4) := by decide

theorem test_step_adc_a_memhl :
    (ran { Cpu.reset with a := 0xE1, h := 0xC0, l := 0x00, f := znhc 0 0 0 1 } [(0xC000, 0x1E)] [0x8E]).map
      (fun (s, k) => (s.cpu.a, s.cpu.f, s.cpu.pc, k)) =
      some (0x00, znhc 1 0 1 1, 0x0101, 8) := by decide

theorem test_step_adc_a_d8 :
    (ran { Cpu.reset with a := 0x00, f := znhc 0 0 0 1 } [] [0xCE, 0xFF]).map
      (fun (s, k) => (s.cpu.f, s.cpu.pc, k)) =
      some (znhc 1 0 1 1, 0x0102, 8) := by decide

theorem test_step_sub_b :
    (ran { Cpu.reset with a := 0x00, b := 0x01, f := znhc 0 0 0 0 } [] [0x90]).map
      (fun (s, k) => (s.cpu.a, s.cpu.f, s.cpu.pc, k)) =
      some (0xFF, znhc 0 1 1 1, 0x0101, 4) := by decide

theorem test_step_sub_memhl :
    (ran { Cpu.reset with a := 0x3E, h := 0xC0, l := 0x00, f := znhc 0 0 0 0 } [(0xC000, 0x40)] [0x96]).map
      (fun (s, k) => (s.cpu.a, s.cpu.f, s.cpu.pc, k)) =
      some (0xFE, znhc 0 1 0 1, 0x0101, 8) := by decide

theorem test_step_sub_d8 :
    (ran { Cpu.reset with a := 0x3E, f := znhc 0 0 0 0 } [] [0xD6, 0x0F]).map
      (fun (s, k) => (s.cpu.a, s.cpu.f, s.cpu.pc, k)) =
      some (0x2F, znhc 0 1 1 0, 0x0102, 8) := by decide

theorem test_step_sbc_a_b :
    (ran { Cpu.reset with a := 0x00, b := 0xFF, f := znhc 0 0 0 1 } [] [0x98]).map
      (fun (s, k) => (s.cpu.f, s.cpu.pc, k)) =
      some (znhc 1 1 1 1, 0x0101, 4) := by decide

theorem test_step_sbc_a_b_2 :
    (ran { Cpu.reset with a := 0x10, b := 0x0F, f := znhc 0 0 0 1 } [] [0x98]).map
      (fun (s, k) => (s.cpu.a, s.cpu.f, s.cpu.pc, k)) =
      some (0x00, znhc 1 1 1 0, 0x0101, 4) := by decide

theorem test_step_sbc_a_memhl :
    (ran { Cpu.reset with a := 0x3B, h := 0xC0, l := 0x00, f := znhc 0 0 0 1 } [(0xC000, 0x4F)] [0x9E]).map
      (fun (s, k) => (s.cpu.a, s.cpu.f, s.cpu.pc, k)) =
      some (0xEB, znhc 0 1 1 1, 0x0101, 8) := by decide

theorem test_step_sbc_a_d8 :
    (ran { Cpu.reset with a := 0x3B, f := znhc 0 0 0 1 } [] [0xDE, 0x3A]).map
      (fun (s, k) => (s.cpu.a, s.cpu.f, s.cpu.pc, k)) =
      some (0x00, znhc 1 1 0 0, 0x0102, 8) := by decide

theorem test_step_and_l :
    (ran { Cpu.reset with a := 0x5A, l := 0x3F, f := znhc 0 0 0 1 } [] [0xA5]).map
      (fun (s, k) => (s.cpu.a, s.cpu.f, s.cpu.pc, k)) =
      some (0x1A, znhc 0 0 1 0, 0x0101, 4) := by decide

theorem test_step_and_memhl :
    (ran { Cpu.reset with a := 0x5A, h := 0xC0, l := 0x00, f := znhc 0 0 0 0 } [(0xC000, 0x00)] [0xA6]).map
      (fun (s, k) => (s.cpu.a, s.cpu.f, s.cpu.pc, k)) =
      some (0x00, znhc 1 0 1 0, 0x0101, 8) := by decide

theorem test_step_and_d8 :
    (ran { Cpu.reset with a := 0x5A, f := znhc 0 0 0 0 } [] [0xE6, 0x38]).map
      (fun (s, k) => (s.cpu.a, s.cpu.f, s.cpu.pc, k)) =
      some (0x18, znhc 0 0 1 0, 0x0102, 8) := by decide

theorem test_step_xor_a :
    (ran { Cpu.reset with a := 0x5A, f := znhc 0 1 1 1 } [] [0xAF]).map
      (fun (s, k) => (s.cpu.a, s.cpu.f, s.cpu.pc, k)) =
      some (0x00, znhc 1 0 0 0, 0x0101, 4) := by decide

theorem test_step_xor_memhl :
    (ran { Cpu.reset with a := 0xFF, h := 0xC0, l := 0x00, f := znhc 0 0 0 0 } [(0xC000, 0x8A)] [0xAE]).map
      (fun (s, k) => (s.cpu.a, s.cpu.f, s.cpu.pc, k)) =
      some (0x75, znhc 0 0 0 0, 0x0101, 8) := by decide

theorem test_step_xor_d8 :
    (ran { Cpu.reset with a := 0xFF, f := znhc 0 0 0 0 } [] [0xEE, 0xFF]).map
      (fun (s, k) => (s.cpu.a, s.cpu.f, s.cpu.pc, k)) =
      some (0x00, znhc 1 0 0 0, 0x0102, 8) := by decide

theorem test_step_or_a :
    (ran { Cpu.reset with a := 0x00, f := znhc 0 1 1 1 } [] [0xB7]).map
      (fun (s, k) => (s.cpu.f, s.cpu.pc, k)) =
      some (znhc 1 0 0 0, 0x0101, 4) := by decide

theorem test_step_or_memhl :
    (ran { Cpu.reset with a := 0x5A, h := 0xC0, l := 0x00, f := znhc 0 0 0 0 } [(0xC000, 0x0F)] [0xB6]).map
      (fun (s, k) => (s.cpu.a, s.cpu.f, s.cpu.pc, k)) =
      some (0x5F, znhc 0 0 0 0, 0x0101, 8) := by decide

theorem test_step_or_d8 :
    (ran { Cpu.reset with a := 0x00, f := znhc 0 0 0 0 } [] [0xF6, 0x00]).map
      (fun (s, k) => (s.cpu.f, s.cpu.pc, k)) =
      some (znhc 1 0 0 0, 0x0102, 8) := by decide

theorem test_step_cp_b :
    (ran { Cpu.reset with a := 0x3C, b := 0x2F, f := znhc 0 0 0 0 } [] [0xB8]).map
      (fun (s, k) => (s.cpu.f, s.cpu.pc, k)) =
      some (znhc 0 1 1 0, 0x0101, 4) := by decide

theorem test_step_cp_memhl :
    (ran { Cpu.reset with a := 0x3C, h := 0xC0, l := 0x00, f := znhc 0 0 0 0 } [(0xC000, 0x40)] [0xBE]).map
      (fun (s, k) => (s.cpu.f, s.cpu.pc, k)) =
      some (znhc 0 1 0 1, 0x0101, 8) := by decide

theorem test_step_cp_d8 :
    (ran { Cpu.reset with a := 0x90, f := znhc 0 0 0 0 } [] [0xFE, 0x90]).map
      (fun (s, k) => (s.cpu.f, s.cpu.pc, k)) =
      some (znhc 1 1 0 0, 0x0102, 8) := by decide

theorem test_step_inc_a :
    (ran { Cpu.reset with a := 0xFF, f := znhc 0 0 0 0 } [] [0x3C]).map
      (fun (s, k) => (s.cpu.a, s.cpu.f, s.cpu.pc, k)) =
      some (0x00, znhc 1 0 1 0, 0x0101, 4) := by decide

theorem test_step_inc_a_2 :
    (ran { Cpu.reset with a := 0xFF, f := znhc 0 0 0 1 } [] [0x3C]).map
      (fun (s, k) => (s.cpu.a, s.cpu.f, s.cpu.pc, k)) =
      some (0x00, znhc 1 0 1 1, 0x0101, 4) := by decide

theorem test_step_inc_memhl :
    (ran { Cpu.reset with h := 0xC0, l := 0x00, f := znhc 0 0 0 1 } [(0xC000, 0xFF)] [0x34]).map
      (fun (s, k) => (s.busRead 0xC000, s.cpu.f, s.cpu.pc, k)) =
      some (0x00, znhc 1 0 1 1, 0x0101, 12) := by decide

theorem test_step_dec_b :
    (ran { Cpu.reset with b := 0x01, f := znhc 0 0 0 0 } [] [0x05]).map
      (fun (s, k) => (s.cpu.b, s.cpu.f, s.cpu.pc, k)) =
      some (0x00, znhc 1 1 0 0, 0x0101, 4) := by decide

theorem test_step_dec_memhl :
    (ran { Cpu.reset with h := 0xC0, l := 0x00, f := znhc 0 0 0 0 } [(0xC000, 0x00)] [0x35]).map
      (fun (s, k) => (s.busRead 0xC000, s.cpu.f, s.cpu.pc, k)) =
      some (0xFF, znhc 0 1 1 0, 0x0101, 12) := by decide

theorem test_step_daa :
    (ran { Cpu.reset with a := 0x00, f := znhc 0 1 0 1 } [] [0x27]).map
      (fun (s, k) => (s.cpu.a, s.cpu.f, s.cpu.pc, k)) =
      some (0xA0, znhc 0 1 0 1, 0x0101, 4) := by decide

theorem test_step_daa_2 :
    (ran { Cpu.reset with a := 0x7D, f := znhc 0 0 0 0 } [] [0x27]).map
      (fun (s, k) => (s.cpu.a, s.cpu.f, s.cpu.pc, k)) =
      some (0x83, znhc 0 0 0 0, 0x0101, 4) := by decide

theorem test_step_cpl :
    (ran { Cpu.reset with a := 0x35, f := znhc 1 0 0 1 } [] [0x2F]).map
      (fun (s, k) => (s.cpu.a, s.cpu.f, s.cpu.pc, k)) =
      some (0xCA, znhc 1 1 1 1, 0x0101, 4) := by decide

theorem test_step_scf :
    (ran { Cpu.reset with f := znhc 1 1 1 0 } [] [0x37]).map
      (fun (s, k) => (s.cpu.f, s.cpu.pc, k)) =
      some (znhc 1 0 0 1, 0x0101, 4) := by decide

theorem test_step_ccf :
    (ran { Cpu.reset with f := znhc 1 1 1 1 } [] [0x3F]).map
      (fun (s, k) => (s.cpu.f, s.cpu.pc, k)) =
      some (znhc 1 0 0 0, 0x0101, 4) := by decide

theorem test_step_add_hl_bc :
    (ran { Cpu.reset with h := 0x8A, l := 0x23, b := 0x06, c := 0x05, f := znhc 1 1 0 0 } [] [0x09]).map
      (fun (s, k) => (s.cpu.h, s.cpu.l, s.cpu.f, s.cpu.pc, k)) =
      some (0x90, 0x28, znhc 1 0 1 0, 0x0101, 8) := by decide

theorem test_step_inc_bc :
    (ran { Cpu.reset with b := 0xFF, c := 0xFF, f := znhc 0 0 0 0 } [] [0x03]).map
      (fun (s, k) => (s.cpu.b, s.cpu.c, s.cpu.f, s.cpu.pc, k)) =
      some (0x00, 0x00, znhc 0 0 0 0, 0x0101, 8) := by decide

theorem test_step_dec_de :
    (ran { Cpu.reset with d := 0x00, e := 0x00, f := znhc 0 0 0 0 } [] [0x1B]).map
      (fun (s, k) => (s.cpu.d, s.cpu.e, s.cpu.f, s.cpu.pc, k)) =
      some (0xFF, 0xFF, znhc 0 0 0 0, 0x0101, 8) := by decide

theorem test_step_add_sp_e8 :
    (ran { Cpu.reset with sp := 0xFFF8, f := znhc 1 1 0 0 } [] [0xE8, 0x02]).map
      (fun (s, k) => (s.cpu.sp, s.cpu.f, s.cpu.pc, k)) =
      some (0xFFFA, znhc 0 0 0 0, 0x0102, 16) := by decide

theorem test_step_add_sp_e8_2 :
    (ran { Cpu.reset with sp := 0x0001, f := znhc 0 0 0 0 } [] [0xE8, 0xFF]).map
      (fun (s, k) => (s.cpu.sp, s.cpu.f, s.cpu.pc, k)) =
      some (0x0000, znhc 0 0 1 1, 0x0102, 16) := by decide

theorem test_step_rlca :
    (ran { Cpu.reset with a := 0x85, f := znhc 1 1 1 0 } [] [0x07]).map
      (fun (s, k) => (s.cpu.a, s.cpu.f, s.cpu.pc, k)) =
      some (0x0B, znhc 0 0 0 1, 0x0101, 4) := by decide

theorem test_step_rrca :
    (ran { Cpu.reset with a := 0x3B, f := znhc 0 0 0 0 } [] [0x0F]).map
      (fun (s, k) => (s.cpu.a, s.cpu.f, s.cpu.pc, k)) =
      some (0x9D, znhc 0 0 0 1, 0x0101, 4) := by decide

theorem test_step_rla :
    (ran { Cpu.reset with a := 0x95, f := znhc 0 0 0 1 } [] [0x17]).map
      (fun (s, k) => (s.cpu.a, s.cpu.f, s.cpu.pc, k)) =
      some (0x2B, znhc 0 0 0 1, 0x0101, 4) := by decide

theorem test_step_rra :
    (ran { Cpu.reset with a := 0x81, f := znhc 0 0 0 0 } [] [0x1F]).map
      (fun (s, k) => (s.cpu.a, s.cpu.f, s.cpu.pc, k)) =
      some (0x40, znhc 0 0 0 1, 0x0101, 4) := by decide

theorem test_step_rlc_b :
    (ran { Cpu.reset with b := 0x85, f := znhc 0 0 0 0 } [] [0xCB, 0x00]).map
      (fun (s, k) => (s.cpu.b, s.cpu.f, s.cpu.pc, k)) =
      some (0x0B, znhc 0 0 0 1, 0x0102, 8) := by decide

theorem test_step_rlc_memhl :
    (ran { Cpu.reset with h := 0xC0, l := 0x00, f := znhc 0 0 0 0 } [(0xC000, 0x80)] [0xCB, 0x06]).map
      (fun (s, k) => (s.busRead 0xC000, s.cpu.f, s.cpu.pc, k)) =
      some (0x01, znhc 0 0 0 1, 0x0102, 16) := by decide

theorem test_step_rrc_c :
    (ran { Cpu.reset with c := 0x01, f := znhc 0 0 0 0 } [] [0xCB, 0x09]).map
      (fun (s, k) => (s.cpu.c, s.cpu.f, s.cpu.pc, k)) =
      some (0x80, znhc 0 0 0 1, 0x0102, 8) := by decide

theorem test_step_rrc_memhl :
    (ran { Cpu.reset with h := 0xC0, l := 0x00, f := znhc 0 0 0 0 } [(0xC000, 0x00)] [0xCB, 0x0E]).map
      (fun (s, k) => (s.busRead 0xC000, s.cpu.f, s.cpu.pc, k)) =
      some (0x00, znhc 1 0 0 0, 0x0102, 16) := by decide

theorem test_step_rl_l :
    (ran { Cpu.reset with l := 0x80, f := znhc 0 0 0 0 } [] [0xCB, 0x15]).map
      (fun (s, k) => (s.cpu.l, s.cpu.f, s.cpu.pc, k)) =
      some (0x00, znhc 1 0 0 1, 0x0102, 8) := by decide

theorem test_step_rl_memhl :
    (ran { Cpu.reset with h := 0xC0, l := 0x00, f := znhc 0 0 0 1 } [(0xC000, 0x11)] [0xCB, 0x16]).map
      (fun (s, k) => (s.busRead 0xC000, s.cpu.f, s.cpu.pc, k)) =
      some (0x23, znhc 0 0 0 0, 0x0102, 16) := by decide

theorem test_step_rr_a :
    (ran { Cpu.reset with a := 0x01, f := znhc 0 0 0 0 } [] [0xCB, 0x1F]).map
      (fun (s, k) => (s.cpu.a, s.cpu.f, s.cpu.pc, k)) =
      some (0x00, znhc 1 0 0 1, 0x0102, 8) := by decide

theorem test_step_rr_memhl :
    (ran { Cpu.reset with h := 0xC0, l := 0x00, f := znhc 0 0 0 1 } [(0xC000, 0x8A)] [0xCB, 0x1E]).map
      (fun (s, k) => (s.busRead 0xC000, s.cpu.f, s.cpu.pc, k)) =
      some (0xC5, znhc 0 0 0 0, 0x0102, 16) := by decide

theorem test_step_sla_d :
    (ran { Cpu.reset with d := 0x80, f := znhc 0 0 0 0 } [] [0xCB, 0x22]).map
      (fun (s, k) => (s.cpu.d, s.cpu.f, s.cpu.pc, k)) =
      some (0x00, znhc 1 0 0 1, 0x0102, 8) := by decide

theorem test_step_sla_memhl :
    (ran { Cpu.reset with h := 0xC0, l := 0x00, f := znhc 0 0 0 0 } [(0xC000, 0x55)] [0xCB, 0x26]).map
      (fun (s, k) => (s.busRead 0xC000, s.cpu.f, s.cpu.pc, k)) =
      some (0xAA, znhc 0 0 0 0, 0x0102, 16) := by decide

theorem test_step_sra_a :
    (ran { Cpu.reset with a := 0x8A, f := znhc 0 0 0 0 } [] [0xCB, 0x2F]).map
      (fun (s, k) => (s.cpu.a, s.cpu.f, s.cpu.pc, k)) =
      some (0xC5, znhc 0 0 0 0, 0x0102, 8) := by decide

theorem test_step_sra_memhl :
    (ran { Cpu.reset with h := 0xC0, l := 0x00, f := znhc 0 0 0 0 } [(0xC000, 0xFF)] [0xCB, 0x2E]).map
      (fun (s, k) => (s.busRead 0xC000, s.cpu.f, s.cpu.pc, k)) =
      some (0xFF, znhc 0 0 0 1, 0x0102, 16) := by decide

theorem test_step_swap_a :
    (ran { Cpu.reset with a := 0xF1, f := znhc 0 0 0 1 } [] [0xCB, 0x37]).map
      (fun (s, k) => (s.cpu.a, s.cpu.f, s.cpu.pc, k)) =
      some (0x1F, znhc 0 0 0 0, 0x0102, 8) := by decide

theorem test_step_swap_memhl :
    (ran { Cpu.reset with h := 0xC0, l := 0x00, f := znhc 0 0 0 0 } [(0xC000, 0x0A)] [0xCB, 0x36]).map
      (fun (s, k) => (s.busRead 0xC000, s.cpu.f, s.cpu.pc, k)) =
      some (0xA0, znhc 0 0 0 0, 0x0102, 16) := by decide

theorem test_step_srl_a :
    (ran { Cpu.reset with a := 0x01, f := znhc 0 0 0 0 } [] [0xCB, 0x3F]).map
      (fun (s, k) => (s.cpu.a, s.cpu.f, s.cpu.pc, k)) =
      some (0x00, znhc 1 0 0 1, 0x0102, 8) := by decide

theorem test_step_srl_memhl :
    (ran { Cpu.reset with h := 0xC0, l := 0x00, f := znhc 0 0 0 0 } [(0xC000, 0x80)] [0xCB, 0x3E]).map
      (fun (s, k) => (s.busRead 0xC000, s.cpu.f, s.cpu.pc, k)) =
      some (0x40, znhc 0 0 0 0, 0x0102, 16) := by decide

theorem test_step_bit_7_a :
    (ran { Cpu.reset with a := 0x80, f := znhc 0 1 0 1 } [] [0xCB, 0x7F]).map
      (fun (s, k) => (s.cpu.f, s.cpu.pc, k)) =
      some (znhc 0 0 1 1, 0x0102, 8) := by decide

theorem test_step_bit_0_memhl :
    (ran { Cpu.reset with h := 0xC0, l := 0x00, f := znhc 0 0 0 0 } [(0xC000, 0xFE)] [0xCB, 0x46]).map
      (fun (s, k) => (s.cpu.f, s.cpu.pc, k)) =
      some (znhc 1 0 1 0, 0x0102, 12) := by decide

theorem test_step_res_7_a :
    (ran { Cpu.reset with a := 0x80, f := znhc 1 0 0 1 } [] [0xCB, 0xBF]).map
      (fun (s, k) => (s.cpu.a, s.cpu.f, s.cpu.pc, k)) =
      some (0x00, znhc 1 0 0 1, 0x0102, 8) := by decide

theorem test_step_res_1_memhl :
    (ran { Cpu.reset with h := 0xC0, l := 0x00 } [(0xC000, 0xFF)] [0xCB, 0x8E]).map
      (fun (s, k) => (s.busRead 0xC000, s.cpu.f, s.cpu.pc, k)) =
      some (0xFD, znhc 1 0 1 1, 0x0102, 16) := by decide

theorem test_step_set_3_a :
    (ran { Cpu.reset with a := 0x80 } [] [0xCB, 0xDF]).map
      (fun (s, k) => (s.cpu.a, s.cpu.f, s.cpu.pc, k)) =
      some (0x88, znhc 1 0 1 1, 0x0102, 8) := by decide

theorem test_step_set_7_memhl :
    (ran { Cpu.reset with h := 0xC0, l := 0x00 } [(0xC000, 0x00)] [0xCB, 0xFE]).map
      (fun (s, k) => (s.busRead 0xC000, s.cpu.f, s.cpu.pc, k)) =
      some (0x80, znhc 1 0 1 1, 0x0102, 16) := by decide

theorem test_step_jp_a16 : (ran Cpu.reset [] [0xC3, 0x00, 0x80]).map (fun (s, k) => (s.cpu.f, s.cpu.pc, k)) =
      some (znhc 1 0 1 1, 0x8000, 16) := by decide

theorem test_step_jp_nz_a16 :
    (ran { Cpu.reset with f := znhc 0 0 0 0 } [] [0xC2, 0x00, 0x02]).map
      (fun (s, k) => (s.cpu.f, s.cpu.pc, k)) =
      some (znhc 0 0 0 0, 0x0200, 16) := by decide

theorem test_step_jp_nz_a16_2 :
    (ran { Cpu.reset with f := znhc 1 0 0 0 } [] [0xC2, 0x00, 0x02]).map
      (fun (s, k) => (s.cpu.f, s.cpu.pc, k)) =
      some (znhc 1 0 0 0, 0x0103, 12) := by decide

theorem test_step_jp_hl :
    (ran { Cpu.reset with h := 0xC0, l := 0x00 } [] [0xE9]).map
      (fun (s, k) => (s.cpu.f, s.cpu.pc, k)) =
      some (znhc 1 0 1 1, 0xC000, 4) := by decide

theorem test_step_jr_e8 : (ran Cpu.reset [] [0x18, 0xFE]).map (fun (s, k) => (s.cpu.f, s.cpu.pc, k)) =
      some (znhc 1 0 1 1, 0x0100, 12) := by decide

theorem test_step_jr_nz_e8 :
    (ran { Cpu.reset with f := znhc 0 0 0 0 } [] [0x20, 0xFA]).map
      (fun (s, k) => (s.cpu.f, s.cpu.pc, k)) =
      some (znhc 0 0 0 0, 0x00FC, 12) := by decide

theorem test_step_jr_nz_e8_2 :
    (ran { Cpu.reset with f := znhc 1 0 0 0 } [] [0x20, 0xFA]).map
      (fun (s, k) => (s.cpu.f, s.cpu.pc, k)) =
      some (znhc 1 0 0 0, 0x0102, 8) := by decide

theorem test_step_call_a16 :
    (ran { Cpu.reset with sp := 0xD000 } [] [0xCD, 0x34, 0x12]).map
      (fun (s, k) => (s.cpu.sp, s.busRead 0xCFFF, s.busRead 0xCFFE, s.cpu.f, s.cpu.pc, k)) =
      some (0xCFFE, 0x01, 0x03, znhc 1 0 1 1, 0x1234, 24) := by decide

theorem test_step_call_z_a16 :
    (ran { Cpu.reset with sp := 0xD000, f := znhc 0 0 0 0 } [] [0xCC, 0x34, 0x12]).map
      (fun (s, k) => (s.cpu.f, s.cpu.pc, k)) =
      some (znhc 0 0 0 0, 0x0103, 12) := by decide

theorem test_step_ret :
    (ran { Cpu.reset with sp := 0xCFFE } [(0xCFFE, 0x03), (0xCFFF, 0x01)] [0xC9]).map
      (fun (s, k) => (s.cpu.sp, s.cpu.f, s.cpu.pc, k)) =
      some (0xD000, znhc 1 0 1 1, 0x0103, 16) := by decide

theorem test_step_ret_nz :
    (ran { Cpu.reset with sp := 0xCFFE, f := znhc 0 0 0 0 } [(0xCFFE, 0x03), (0xCFFF, 0x01)] [0xC0]).map
      (fun (s, k) => (s.cpu.sp, s.cpu.f, s.cpu.pc, k)) =
      some (0xD000, znhc 0 0 0 0, 0x0103, 20) := by decide

theorem test_step_ret_nz_2 :
    (ran { Cpu.reset with sp := 0xCFFE, f := znhc 1 0 0 0 } [(0xCFFE, 0x03), (0xCFFF, 0x01)] [0xC0]).map
      (fun (s, k) => (s.cpu.f, s.cpu.pc, k)) =
      some (znhc 1 0 0 0, 0x0101, 8) := by decide

theorem test_step_reti :
    (ran { Cpu.reset with sp := 0xCFFE, ime := false } [(0xCFFE, 0x03), (0xCFFF, 0x01)] [0xD9]).map
      (fun (s, k) => (s.cpu.sp, s.cpu.ime, s.cpu.f, s.cpu.pc, k)) =
      some (0xD000, true, znhc 1 0 1 1, 0x0103, 16) := by decide

theorem test_step_rst_28h :
    (ran { Cpu.reset with sp := 0xD000 } [] [0xEF]).map
      (fun (s, k) => (s.cpu.sp, s.busRead 0xCFFF, s.busRead 0xCFFE, s.cpu.f, s.cpu.pc, k)) =
      some (0xCFFE, 0x01, 0x01, znhc 1 0 1 1, 0x0028, 16) := by decide

theorem test_step_nop : (ran Cpu.reset [] [0x00]).map (fun (s, k) => (s.cpu.f, s.cpu.pc, k)) =
      some (znhc 1 0 1 1, 0x0101, 4) := by decide

theorem test_step_halt : (ran Cpu.reset [] [0x76]).map (fun (s, k) => (s.cpu.halt, s.cpu.f, s.cpu.pc, k)) =
      some (true, znhc 1 0 1 1, 0x0101, 4) := by decide

theorem test_step_di :
    (ran { Cpu.reset with ime := true } [] [0xF3]).map
      (fun (s, k) => (s.cpu.ime, s.cpu.f, s.cpu.pc, k)) =
      some (false, znhc 1 0 1 1, 0x0101, 4) := by decide

theorem test_step_ei :
    (ran { Cpu.reset with ime := false } [] [0xFB]).map
      (fun (s, k) => (s.cpu.ime, s.cpu.f, s.cpu.pc, k)) =
      some (true, znhc 1 0 1 1, 0x0101, 4) := by decide

theorem test_step_stop : (ran Cpu.reset [] [0x10, 0x00]).map (fun (s, k) => (s.cpu.f, s.cpu.pc, k)) =
      some (znhc 1 0 1 1, 0x0102, 4) := by decide

theorem test_step_undef_d3 : (ran Cpu.reset [] [0xD3]).map (fun (s, k) => (s.cpu.f, s.cpu.pc, k)) =
      some (znhc 1 0 1 1, 0x0101, 4) := by decide

/-! ## Interrupts, timer, bus, cartridge, joypad, picture unit (V8 to V14) -/

/-- V8, first row: the lowest request is serviced, its bit and `ime` cleared, `PC` pushed. -/
theorem test_interrupt_service :
    (ran { Cpu.reset with ime := true, pc := 0x0234, sp := 0xD000 } [(0xFFFF, 0x1F), (0xFF0F, 0x1F)] []).map
      (fun (s, k) => (s.iflag, s.cpu.ime, [s.cpu.sp, s.cpu.pc], [s.busRead 0xCFFF, s.busRead 0xCFFE], k)) =
      some (0x1E, false, [0xCFFE, 0x0040], [0x02, 0x34], 20) := by decide

/-- V8: `ime=0 IE=00 IF=00 halt=1 TAC=05 TIMA=FF Timer=0C TMA=00`: the overflow wakes the CPU. -/
theorem test_halted_step_wakes_on_overflow :
    (match ({ State.reset with
        cpu := { Cpu.reset with halt := true }
        timer := { Timer.reset with tac := 5, tima := 0xFF, timer := 12 } } : State).cpuStep with
      | .next (s, k) => some (s.timer.tima, s.iflag, s.cpu.halt, s.timer.timer, k)
      | _ => none) = some (0x00, 0x04, false, 0, 4) := by decide

/-- V9, third row: `TAC=05 TIMA=FF TMA=FF Timer=0`, 24 cycles. -/
theorem test_timer_reload :
    (let t := State.timerAdvance 24
        { State.reset with timer := { Timer.reset with tac := 5, tima := 0xFF, tma := 0xFF } };
      (t.timer.tima, t.iflag, t.timer.timer)) = (0xFF, 0x04, 8) := by decide

/-- V10: DMA from page C1 (here its first and last byte). -/
theorem test_oam_dma :
    (let s := start Cpu.reset [(0xC100, 0x90), (0xC19F, 0x2F), (0xFF46, 0xC1)];
      (s.busRead 0xFE00, s.busRead 0xFE01, s.busRead 0xFE9F)) = (0x90, 0x00, 0x2F) := by decide +kernel

/-- V10: the serial strobe. -/
theorem test_serial_strobe :
    (start Cpu.reset [(0xFF01, 0x41), (0xFF02, 0x81), (0xFF02, 0x80), (0xFF01, 0x42), (0xFF02, 0x81)]).dbgOut =
      [0x41, 0x42] := by decide

/-- A machine with MBC1, 64 KiB of ROM and 32 KiB of RAM, as in V11. -/
def banked : State :=
  { State.reset with
    cart := { rom := [(0, 0x55), (0x147, 0x01), (0x4000, 0xAA), (0x8000, 0xBB)], romLen := 0x10000,
              controller := .mbc1 .reset, ramLen := 32768, xram := [] } }

/-- V11: bank 0 gives bank 1, bank 2 gives bank 2, bank 5 of 4 wraps. -/
theorem test_mbc1_rom_banks :
    [(banked.busWrite 0x2000 0x00).busRead 0x4000, (banked.busWrite 0x2000 0x02).busRead 0x4000,
      (banked.busWrite 0x2000 0x05).busRead 0x4000, banked.busRead 0x0000] = [0xAA, 0xBB, 0xAA, 0x55] := by decide

/-- V11: RAM is reached only while enabled, bank 2 only in mode 1. -/
theorem test_mbc1_ram :
    (let s := (banked.busWrite 0x0000 0x0A).busWrite 0xA000 0x11;
      let t := (s.busWrite 0x4000 0x02).busWrite 0x6000 0x01;
      [banked.busRead 0xA000, s.busRead 0xA000, t.busRead 0xA000, (s.busWrite 0x0000 0x0B).busRead 0xA000]) =
      [0xFF, 0x11, 0x00, 0xFF] := by decide

/-- V12: A and Down pressed. -/
theorem test_joypad :
    (let s := joypadApply { Keys.released with a := true, down := true } State.reset;
      (s.iflag, [0x30, 0x20, 0x10, 0x00].map (fun v : Byte => (s.busWrite 0xFF00 v).busRead 0xFF00))) =
      (0x10, [0x3F, 0x27, 0x1E, 0x06]) := by decide

/-- The picture unit of V13 at a count of cycles, with the STAT and LY that belong to it. -/
def picture (cycles : Nat) (stat : BitVec 7) (ly : Byte) (lyc : Byte) : State :=
  { State.reset with ppu := { Ppu.reset with lcdc := 0x80, stat := stat, ly := ly, lyc := lyc, cycles := cycles } }

/-- V13, first row: entry to mode 2. -/
theorem test_ppu_first_call :
    (let t := State.ppuRun 4 (picture 0 0x28 0 1);
      (t.ppu.stat, t.ppu.ly, t.iflag, t.ppu.cycles)) = (0x2A, 0, 0x02, 4) := by decide

/-- V13: entry to VBlank. -/
theorem test_ppu_vblank :
    (let t := State.ppuRun 4 (picture 65660 0x00 143 0);
      (t.ppu.stat, t.ppu.ly, t.iflag, t.frameReady)) = (0x01, 144, 0x01, true) := by decide +kernel

/-- V13: the frame wraps. -/
theorem test_ppu_wrap :
    (let t := State.ppuRun 12 (picture 70220 0x01 153 0);
      (t.ppu.stat, t.ppu.ly, t.ppu.cycles)) = (0x05, 0, 0) := by decide

/-- The setup T of V14 with the flags byte of sprite 0. -/
def pictureT (flags : Byte) : Ppu :=
  { Ppu.reset with
    lcdc := 0x91, bgp := 0xE4, obp0 := 0x1B, obp1 := 0xE4, vram := [(0x10, 0x3C), (0x11, 0x7E), (0x1800, 0x01)],
    oam := (if flags = 0 then [(0, 0x10), (1, 0x0C), (2, 0x01)]
      else [(0, 0x10), (1, 0x0C), (2, 0x01), (3, flags)]) }

/-- V14, first row: the sprite above the background. -/
theorem test_raster_above :
    (let q := (pictureT 0x00).rasteriseRow 0;
      (List.range 13).map (Memory.read q.fb)) = [0, 2, 3, 3, 3, 1, 0, 0, 0, 0, 1, 0, 0] := by decide +kernel

/-- V14, second row: the sprite behind the background. -/
theorem test_raster_behind :
    (let q := (pictureT 0x80).rasteriseRow 0;
      (List.range 13).map (Memory.read q.fb)) = [0, 2, 3, 3, 3, 3, 2, 0, 0, 0, 1, 0, 0] := by decide +kernel

/-- The setup of V14 for 8x16 sprites, with the flags byte of sprite 0. -/
def pictureTall (flags : Byte) : Ppu :=
  { Ppu.reset with
    lcdc := 0x95, bgp := 0xE4, obp0 := 0xE4,
    vram := [(0x20, 0x80), (0x2F, 0x80), (0x30, 0x80), (0x31, 0x80)],
    oam := Memory.ofBytes 0 [0x10, 0x08, 0x03, flags] }

/-- V14: the two tiles of an 8x16 sprite at rows 0, 7, 8 and 15, upright and flipped. -/
theorem test_raster_tall :
    [0, 7, 8, 15].map (fun row => Memory.read ((pictureTall 0x00).rasteriseRow row).fb (row * 160)) = [1, 2, 3, 0] ∧
    [0, 7, 8, 15].map (fun row => Memory.read ((pictureTall 0x40).rasteriseRow row).fb (row * 160)) = [0, 3, 2, 1] := by
  decide +kernel

/-- V14: where two sprites overlap the one of the lower X wins. -/
theorem test_raster_overlap :
    (let q := Ppu.rasteriseRow 0
        { Ppu.reset with
          lcdc := 0x91, obp0 := 0xE4, vram := [(0x10, 0xFF), (0x21, 0xFF)],
          oam := Memory.ofBytes 0 [0x10, 0x0C, 0x01, 0x00, 0x10, 0x08, 0x02, 0x00] };
      (List.range 14).map (Memory.read q.fb)) = [2, 2, 2, 2, 2, 2, 2, 2, 1, 1, 1, 1, 0, 0] := by decide +kernel

/-- R400, R403: with the blank cartridge the first step after reset runs the byte 00 at 0100. -/
theorem test_placed_word_runs_first :
    (match step (State.reset.withFetchWord 8 0x3C) with
      | .next t => some (t.cpu.a, t.cpu.pc)
      | _ => none) = some (0x02, 0x0101) := by decide

/-! ## Witnesses: states and operands that meet the hypotheses of the statements -/

/-- `DecodeOfEncode`: a whole instruction. -/
theorem test_witness_DecodeOfEncode : Instr.wellFormed (.ldAMemA16 0xFFFF) = true := by decide

/-- `EncodeOfDecode`: bytes that decode, with bytes left over. -/
theorem test_witness_EncodeOfDecode : decode [0xFA, 0x44, 0xFF, 0x00] = .ok (.ldAMemA16 0xFF44, [0x00]) := rfl

/-- `StepRunsInstruction`: a running CPU with `ime` clear, and one with `ime` set and nothing pending. -/
theorem test_witness_StepRunsInstruction :
    (∃ (s : State) (i : Instr) (rest : List Byte), s.cpu.ime = false ∧ s.cpu.halt = false ∧
      decode [s.busRead s.cpu.pc, s.busRead (s.cpu.pc + 1), s.busRead (s.cpu.pc + 2)] = .ok (i, rest)) ∧
    ∃ (s : State) (i : Instr) (rest : List Byte), s.cpu.ime = true ∧ s.ie &&& s.iflag = 0 ∧ s.cpu.halt = false ∧
      decode [s.busRead s.cpu.pc, s.busRead (s.cpu.pc + 1), s.busRead (s.cpu.pc + 2)] = .ok (i, rest) :=
  ⟨⟨State.reset, .nop, [0, 0], rfl, rfl, rfl⟩,
    ⟨State.reset.setIme true, .nop, [0, 0], rfl, rfl, rfl, rfl⟩⟩

/-- `HasCost` and `HasCosts`, in every statement about a cost: the default table. -/
theorem test_witness_HasCost : State.reset.params.costs = [] := rfl

/-- `HasCosts`, `Calls`: a condition that holds and one that does not. -/
theorem test_witness_conditions :
    State.reset.cpu.f.holds .z = true ∧ State.reset.cpu.f.holds .nz = false := ⟨rfl, rfl⟩

/-- `LoadPair`, `PopPair`: frames with a register that is no part of the pair, and pairs other than SP and AF. -/
theorem test_witness_frames :
    Reg8.b ∉ [Reg8.a, .h, .l] ∧ Reg8.a ∉ Pair.regs .sp ∧ Reg8.a ∉ StackPair.regs .bc ∧ Pair.hl ≠ .sp ∧
    StackPair.hl ≠ .af := by decide

/-- `AddToA`, `SubtractFromA`, `SubtractWithCarry`, `LogicWithA`: each operation in each of the three forms. -/
theorem test_witness_AluForm (op : AluOp) :
    (∃ v, AluForm op State.reset (Instr.aluR op .b) v) ∧ (∃ v, AluForm op State.reset (Instr.aluHl op) v) ∧
    AluForm op State.reset (Instr.aluN op 0xFF) 0xFF :=
  ⟨⟨_, .inl ⟨.b, rfl, rfl⟩⟩, ⟨_, .inr (.inl ⟨rfl, rfl⟩)⟩, .inr (.inr rfl)⟩

/-- The memory clauses of frames: an address that a store to work RAM leaves alone. -/
theorem test_witness_StoresOne : ¬ State.reset.touches 0xC000 0xC001 ∧
    ¬ (State.reset.busWrite 0xC000 0x12).touches 0xC001 0xC002 := by
  constructor <;> simp only [State.touches] <;> decide

/-- `PopAfterPush`, `ReturnAfterCall`: from reset the stack lies in high RAM. -/
theorem test_witness_PopAfterPush : State.wf State.reset = true ∧
    State.reset.plainRam (State.reset.cpu.sp - 1) ∧ State.reset.plainRam (State.reset.cpu.sp - 2) ∧
    (∃ t u, exec (Instr.push .bc) State.reset = .next t ∧ exec (Instr.pop .bc) t = .next u) ∧
    ∃ t u, exec (.callA16 0x1234) State.reset = .next t ∧ exec .ret t = .next u :=
  ⟨by decide, by unfold State.plainRam; decide, by unfold State.plainRam; decide, ⟨_, _, rfl, rfl⟩, ⟨_, _, rfl, rfl⟩⟩

/-- `plainRam`, clause by clause at the ends of its ranges: external RAM where it is enabled. -/
theorem test_witness_plainRam :
    (∀ a ∈ [(0x8000 : Word), 0x9FFF, 0xC000, 0xFE9F, 0xFF80, 0xFFFE], State.reset.plainRam a) ∧
    ∀ a ∈ [(0xA000 : Word), 0xBFFF], (banked.busWrite 0x0000 0x0A).plainRam a := by
  simp [State.plainRam, banked, State.busWrite, Cartridge.write, Mbc1.write, Cartridge.ramOffset]

/-- The reset machine with UNDEF_POLICY = stuck and an undefined opcode at `PC`. -/
def stuck : State :=
  { State.reset with
    params := { Params.default with undefPolicy := .stuck }, cart := { Cartridge.blank with rom := [(0x100, 0xD3)] } }

/-- `UndefinedOpcodes`, `EveryStepReturns`: either policy, and the stop itself. -/
theorem test_witness_UndefinedOpcodes :
    State.reset.params.undefPolicy = .nop ∧ stuck.params.undefPolicy = .stuck ∧ Instr.undefD3 ∈ Instr.undefinedRows ∧
    step stuck = .fault .undefinedOpcode := ⟨rfl, rfl, by decide, rfl⟩

/-- `StepKeepsSafe`, `RomAndParamsFixed`: a safe state with a step. -/
theorem test_witness_step : State.wf State.reset = true ∧ ∃ t, step State.reset = .next t :=
  ⟨by decide, ⟨_, rfl⟩⟩

/-- `ResetIsSafe`: an image that loads. -/
theorem test_witness_load : ∃ (image : List Byte) (c : Cartridge), Cartridge.load image = .ok c := by
  refine ⟨List.replicate 0x8000 0, ?_⟩
  have size : ¬ (List.replicate 0x8000 (0 : Byte)).length < Config.minRomLen := by
    rw [List.length_replicate]; decide
  have kind : (List.replicate 0x8000 (0 : Byte)).getD 0x147 0 = 0 := by
    rw [List.getD_replicate]; decide
  unfold Cartridge.load
  rw [if_neg size, kind]
  exact ⟨_, rfl⟩

/-- `OnlyBusWrites`, `FlagsAndModeBits`: an instruction that runs and stores. -/
theorem test_witness_exec :
    ∃ t, Instr.wellFormed (.ldMemA16A 0xC000) = true ∧ exec (.ldMemA16A 0xC000) State.reset = .next t :=
  ⟨_, rfl, rfl⟩

/-- `FlagsAndModeBits`: instructions that do change `ime` and `halt`, and one that writes no flag. -/
theorem test_witness_FlagsAndModeBits :
    (∃ t, exec .ei State.reset = .next t ∧ t.cpu.ime ≠ State.reset.cpu.ime) ∧
    (∃ t, exec .halt State.reset = .next t ∧ t.cpu.halt ≠ State.reset.cpu.halt) ∧ ¬ Instr.writesFlags .nop := by
  refine ⟨⟨_, rfl, by decide⟩, ⟨_, rfl, by decide⟩, ?_⟩
  rintro (⟨op, r, h⟩ | ⟨op, h⟩ | ⟨op, n, h⟩ | ⟨r, h | h⟩ | h | h | h | h | h | h | ⟨p, h⟩ | ⟨e, h | h⟩ | h | h | h | h |
    ⟨op, r, h⟩ | ⟨op, h⟩ | ⟨n, r, h⟩ | ⟨n, h⟩ | h) <;>
    first
    | (cases h)
    | (cases op <;> cases h)
    | (cases op <;> cases r <;> cases h)
    | (cases r <;> cases h)
    | (cases p <;> cases h)
    | (revert n; decide)
    | (cases r <;> revert n <;> decide)

/-- `BusWriteFrame`: for each range of the written address an address the write cannot reach. -/
theorem test_witness_BusWriteFrame :
    (∀ w ∈ [((0x0000 : Word), (0x8000 : Word)), (0x7FFF, 0xA000)], ¬ State.reset.touches w.1 w.2) ∧
    (∀ w ∈ [((0x0000 : Word), (0x4000 : Word)), (0x1FFF, 0x9FFF), (0x2000, 0xA000), (0x3FFF, 0x8000),
      (0x4000, 0x3FFF), (0x7FFF, 0xC000)], ¬ banked.touches w.1 w.2) ∧
    (∀ w ∈ [((0x8000 : Word), (0x8001 : Word)), (0xA000, 0xA001), (0xBFFF, 0xBFFE), (0xC000, 0xE001), (0xDE00, 0xFE00),
      (0xE000, 0xC001), (0xFDFF, 0xDDFE), (0xFE00, 0xFE01), (0xFEA0, 0xFEA0), (0xFF46, 0xFF46), (0xFF46, 0xFEA0),
      (0xFF47, 0xFF46), (0xFFFF, 0xFFFE)], ¬ (banked.busWrite 0x0000 0x0A).touches w.1 w.2) := by
  refine ⟨?_, ?_, ?_⟩ <;>
    (intro w hw; fin_cases hw <;> simp [State.touches, State.reset, Cartridge.blank, banked, State.busWrite,
      Cartridge.write, Mbc1.write, Cartridge.ramOffset, Mbc1.reset])

/-- `TakeInterrupt`: the first source, and the last with no other pending. -/
theorem test_witness_TakeInterrupt :
    (let s : State := { State.reset with cpu := { Cpu.reset with ime := true }, ie := 0x1F, iflag := 0x1F };
      s.cpu.ime = true ∧ (s.ie &&& s.iflag).getLsbD Irq.vblank.bit = true ∧
      ∀ k, k < Irq.vblank.bit → (s.ie &&& s.iflag).getLsbD k = false) ∧
    (let s : State := { State.reset with cpu := { Cpu.reset with ime := true }, ie := 0x10, iflag := 0x1F };
      s.cpu.ime = true ∧ (s.ie &&& s.iflag).getLsbD Irq.joypad.bit = true ∧
      ∀ k, k < Irq.joypad.bit → (s.ie &&& s.iflag).getLsbD k = false) := by decide

/-- `HaltedStep`: a halted CPU with `ime` clear, and one with `ime` set and nothing pending. -/
theorem test_witness_HaltedStep :
    (State.reset.setHalt true).cpu.halt = true ∧ (State.reset.setHalt true).cpu.ime = false ∧
    ((State.reset.setHalt true).setIme true).cpu.halt = true ∧
    ((State.reset.setHalt true).setIme true).ie &&& ((State.reset.setHalt true).setIme true).iflag = 0 := by decide

/-- `TimerClosedForm`: TAC off, TAC on without an overflow, and an overflow. -/
theorem test_witness_TimerClosedForm :
    (let t := State.timerAdvance 1024 State.reset;
      (t.timer.tima, t.timer.timer, t.timer.div)) = (0, 1024, 4) ∧
    (let t := State.timerAdvance 24 { State.reset with timer := { Timer.reset with tac := 5, tima := 0xF0 } };
      (t.timer.tima, t.timer.timer, t.iflag)) = (0xF1, 8, 0) ∧
    (let t := State.timerAdvance 48
        { State.reset with timer := { Timer.reset with tac := 5, tima := 0xFF, tma := 0xFE } };
      (t.timer.tima, t.timer.timer, t.iflag)) = (0xFE, 0, 4) := by decide

/-- `IoRegisters`: the ends of its list of plain registers, a strobe and no strobe. -/
theorem test_witness_IoRegisters :
    (State.reset.busWrite 0xFF01 0xA5).busRead 0xFF01 = 0xA5 ∧ (State.reset.busWrite 0xFF4B 0xA5).busRead 0xFF4B = 0xA5 ∧
    (State.reset.busWrite 0xFF02 0x81).dbgOut = [0x00] ∧ (State.reset.busWrite 0xFF02 0x80).dbgOut = [] := by decide

/-- `RamAndEcho`: the ends of the ranges without an owner, and the last echoed byte. -/
theorem test_witness_RamAndEcho :
    ([(0xFEA0 : Word), 0xFEFF, 0xFF03, 0xFF08, 0xFF0E, 0xFF10, 0xFF3F, 0xFF4C, 0xFF7F].all fun a =>
      State.reset.busRead a == 0xFF) ∧
    (State.reset.busWrite (BitVec.ofNat 16 (0xC000 + 0x1DFF)) 0x5A).busRead 0xFDFF = 0x5A := by decide

/-- `BankControl`, `BankedAccess`: a machine with MBC1, each control range at both ends. -/
theorem test_witness_BankControl :
    banked.cart.controller = .mbc1 .reset ∧ State.reset.cart.controller = .mbc0 ∧
    ([(0x0000 : Word), 0x1FFF].all fun a => (banked.busWrite a 0x0A).busRead 0xA000 == 0x00) ∧
    ([(0x2000 : Word), 0x3FFF].all fun a => (banked.busWrite a 0x02).busRead 0x4000 == 0xBB) ∧
    ([(0x4000 : Word), 0x5FFF].all fun a => (banked.busWrite a 0x01).busRead 0x4000 == 0xAA) ∧
    ([(0x6000 : Word), 0x7FFF].all fun a => (banked.busWrite a 0x01) != banked) := by decide +kernel

/-- `BankedAccess`: RAM disabled, enabled, and absent. -/
theorem test_witness_BankedAccess :
    banked.busRead 0xBFFF = 0xFF ∧ (banked.busWrite 0 0x0A).busRead 0xBFFF = 0x00 ∧
    (({ banked with cart := { banked.cart with ramLen := 0 } } : State).busWrite 0 0x0A).busRead 0xA000 = 0xFF := by
  decide +kernel

/-- `OamDma`: a safe state with something to copy. -/
theorem test_witness_OamDma :
    State.wf (State.reset.busWrite 0xC000 0x5A) = true ∧
    ((State.reset.busWrite 0xC000 0x5A).busWrite 0xFF46 0xC0).busRead 0xFE00 = 0x5A := by decide +kernel

/-- `PictureUnitCall`: the LCD off, on without entry to HBlank, and on with it. -/
theorem test_witness_PictureUnitCall :
    State.reset.ppu.lcdc.getLsbD 7 = false ∧ (picture 0 0x28 0 1).ppu.lcdc.getLsbD 7 = true ∧
    (State.ppuRun 4 (picture 0 0x28 0 1)).ppu.mode = 2 ∧
    (State.ppuRun 4 (picture 248 0x2B 0 1)).ppu.mode = 0 := by decide +kernel

/-- `RasterRow`: a canonical framebuffer, and a pixel of each outcome: no sprite over background index 0 and over another
index, a sprite that wins, a sprite held back by its BG-priority flag, the last pixel of the row. -/
theorem test_witness_RasterRow :
    Memory.wf (pictureT 0).fb = true ∧
    [0, 1, 10, 159].map ((pictureT 0).rasteriseRow 0).slot = [.undrawn, .background, .sprite, .undrawn] ∧
    ((pictureT 0x80).rasteriseRow 0).slot 5 = .background := by decide +kernel

/-- A picture with twelve sprites on row 0, the lower their number the larger their X. -/
def crowded : Ppu :=
  { Ppu.reset with
    oam := [(0, 16), (1, 120), (4, 16), (5, 110), (8, 16), (9, 100), (12, 16), (13, 90), (16, 16), (17, 80), (20, 16),
      (21, 70), (24, 16), (25, 60), (28, 16), (29, 50), (32, 16), (33, 40), (36, 16), (37, 30), (40, 16), (41, 20),
      (44, 16), (45, 20)] }

/-- `SpriteSelection`: ten of the twelve are taken, in ascending X; the two of the largest X are left out. -/
theorem test_witness_SpriteSelection :
    (crowded.selected 0).map (fun o => o.x.toNat) = [20, 20, 30, 40, 50, 60, 70, 80, 90, 100] := by decide +kernel

end Sys2Proof.Tests
end

section
/-! # MBC1's control writes (20_memory.md R105 to R108)

What `Mbc1.write` leaves in each of the four registers, over the whole range 0000 to 7FFF, with the byte's fields as
remainders of its value; and that a control write through `Cartridge.write` replaces the registers and nothing else. -/

namespace Sys2Proof.Machine

/-- The test for 0xA in the low nibble, the enable pattern of R105. -/
theorem lowNibble_beq_ten (v : Byte) : (v &&& 0x0F == 0x0A) = decide (v.toNat % 16 = 0xA) := by
  have hmask : (v &&& 0x0F).toNat = v.toNat % 16 := by
    rw [BitVec.toNat_and]; exact Nat.and_two_pow_sub_one_eq_mod v.toNat 4
  have hten : v &&& 0x0F = 0x0A ↔ v.toNat % 16 = 0xA := by rw [← BitVec.toNat_inj, hmask]; rfl
  rw [beq_eq_decide]; exact decide_eq_decide.2 hten

/-- The bank number R106 forms: the low five bits, with 1 in the place of 0. -/
theorem toNat_setWidth_five_or_one (v : Byte) :
    (if v.setWidth 5 = 0 then (1 : BitVec 5) else v.setWidth 5).toNat =
      if v.toNat % 32 = 0 then 1 else v.toNat % 32 := by
  have hlow : (v.setWidth 5).toNat = v.toNat % 32 := BitVec.toNat_setWidth 5 v
  have hzero : v.setWidth 5 = 0 ↔ v.toNat % 32 = 0 := by rw [← BitVec.toNat_inj, hlow]; rfl
  simp only [hzero, apply_ite BitVec.toNat, hlow]; rfl

theorem Mbc1.write_ramEnable (r : Mbc1) (a : Nat) (v : Byte) :
    (r.write a v).ramEnable = if a ≤ 0x1FFF then decide (v.toNat % 16 = 0xA) else r.ramEnable := by
  rw [← lowNibble_beq_ten]
  unfold Mbc1.write
  split
  · rfl
  split
  · rfl
  split <;> rfl

theorem Mbc1.write_romBankLo (r : Mbc1) (a : Nat) (v : Byte) :
    (r.write a v).romBankLo.toNat =
      if 0x2000 ≤ a ∧ a ≤ 0x3FFF then (if v.toNat % 32 = 0 then 1 else v.toNat % 32) else r.romBankLo.toNat := by
  rw [← toNat_setWidth_five_or_one]
  unfold Mbc1.write
  split
  · exact (if_neg (by omega)).symm
  split
  · exact (if_pos (by omega)).symm
  split <;> exact (if_neg (by omega)).symm

theorem Mbc1.write_ramBank (r : Mbc1) (a : Nat) (v : Byte) :
    (r.write a v).ramBank.toNat = if 0x4000 ≤ a ∧ a ≤ 0x5FFF then v.toNat % 4 else r.ramBank.toNat := by
  rw [← show (v.setWidth 2).toNat = v.toNat % 4 from BitVec.toNat_setWidth 2 v]
  unfold Mbc1.write
  split
  · exact (if_neg (by omega)).symm
  split
  · exact (if_neg (by omega)).symm
  split
  · exact (if_pos (by omega)).symm
  · exact (if_neg (by omega)).symm

theorem Mbc1.write_bankingMode (r : Mbc1) (a : Nat) (v : Byte) :
    (r.write a v).bankingMode = if 0x6000 ≤ a then decide (v.toNat % 2 = 1) else r.bankingMode := by
  rw [← show v.getLsbD 0 = decide (v.toNat % 2 = 1) from Nat.testBit_zero v.toNat]
  unfold Mbc1.write
  split
  · exact (if_neg (by omega)).symm
  split
  · exact (if_neg (by omega)).symm
  split
  · exact (if_neg (by omega)).symm
  · exact (if_pos (by omega)).symm

theorem Cartridge.write_of_mbc1 {c : Cartridge} {r : Mbc1} (h : c.controller = .mbc1 r) (a : Nat) (v : Byte) :
    c.write a v = { c with controller := .mbc1 (r.write a v) } := by
  simp only [Cartridge.write, h]

/-- Settles O54: a write to 0000 to 7FFF reaches the cartridge alone, there replaces MBC1's registers alone, and of
these changes the one its range names. -/
theorem bankControl : Obligations.BankControl := by
  intro s r a v hr ha
  refine ⟨r.write a.toNat v, ?_, r.write_ramEnable _ v, r.write_romBankLo _ v, r.write_ramBank _ v,
    r.write_bankingMode _ v⟩
  rw [State.busWrite_rom ha, Cartridge.write_of_mbc1 hr]

end Sys2Proof.Machine
end

section
/-! # What a bus write leaves unchanged (20_memory.md R73, R80, R96, R105 to R111)

First the cartridge: which part of the address map each control range and a write to external RAM leave as they were.
Then the bus, region by region of the written address, and `StoresOne` of a bus write. -/

namespace Sys2Proof.Machine

/-! ## The cartridge -/

theorem Mbc1.romBank_write_of_le (r : Mbc1) {a : Nat} (v : Byte) (ha : a ≤ 0x1FFF) :
    (r.write a v).romBank = r.romBank := by
  rw [Mbc1.write, if_pos ha]; rfl

theorem Cartridge.ramOffset_write_bankLo (c : Cartridge) {a : Nat} (v : Byte) (h1 : 0x2000 ≤ a) (h2 : a ≤ 0x3FFF)
    (x : Nat) : (c.write a v).ramOffset x = c.ramOffset x := by
  cases hc : c.controller with
  | mbc0 => simp only [Cartridge.write, hc]
  | mbc1 r =>
    rw [Cartridge.write_of_mbc1 hc, Mbc1.write, if_neg (by omega), if_pos h2]
    simp only [Cartridge.ramOffset, hc]

/-- Only a write to 2000 to 7FFF switches ROM banks, and only those shown at 4000 to 7FFF (R105 to R109). -/
theorem Cartridge.read_write (c : Cartridge) {a x : Nat} (v : Byte) (h : a ≤ 0x1FFF ∨ x ≤ 0x3FFF) :
    (c.write a v).read x = c.read x := by
  cases hc : c.controller with
  | mbc0 => simp only [Cartridge.write, hc]
  | mbc1 r =>
    rw [Cartridge.write_of_mbc1 hc]
    simp only [Cartridge.read, Cartridge.romOffset, hc]
    rcases h with ha | hx
    · rw [Mbc1.romBank_write_of_le r v ha]
    · rw [if_pos hx, if_pos hx]

theorem Cartridge.read_ramWrite (c : Cartridge) (a x : Nat) (v : Byte) : (c.ramWrite a v).read x = c.read x := by
  unfold Cartridge.ramWrite
  split <;> rfl

/-- Without external RAM at `a` a write there is lost; with it, the other bytes of external RAM stay (R111). -/
theorem Cartridge.ramRead_ramWrite (c : Cartridge) {a x : Nat} (v : Byte)
    (h : c.ramOffset a = none ∨ c.ramOffset x ≠ c.ramOffset a) : (c.ramWrite a v).ramRead x = c.ramRead x := by
  unfold Cartridge.ramWrite
  split
  · next o ho =>
      have hx : c.ramOffset x ≠ some o := by simpa [ho] using h
      unfold Cartridge.ramRead
      rw [show Cartridge.ramOffset { c with xram := Memory.write c.xram o v } x = c.ramOffset x from rfl]
      split
      · next p hp => exact Memory.read_write_other _ v fun hpo => hx (hpo ▸ hp)
      · rfl
  · rfl

/-! ## The bus -/

/-- A control write reaches only the windows `State.touches` names for its range (R103, R105 to R108). -/
theorem State.busRead_write_rom (s : State) {a x : Word} (v : Byte) (ha : a.toNat ≤ 0x7FFF)
    (h : ¬ s.touches a x) : ({ s with cart := s.cart.write a.toNat v } : State).busRead x = s.busRead x := by
  by_cases hc : s.cart.controller = .mbc0
  · rw [show s.cart.write a.toNat v = s.cart by simp only [Cartridge.write, hc]]
  simp only [State.touches, if_pos ha] at h
  have hwindow := not_and.1 h hc
  apply State.busRead_congr
  case rom =>
    intro hx
    refine Cartridge.read_write _ v ?_
    split_ifs at hwindow <;> omega
  case xram =>
    intro h1 h2
    obtain ⟨-, -, -, hxram⟩ := Cartridge.write_fixed s.cart a.toNat v
    unfold Cartridge.ramRead
    split_ifs at hwindow with ha1 ha2
    · omega
    · rw [Cartridge.ramOffset_write_bankLo _ v (by omega) ha2, hxram]
    · omega
  all_goals intros; rfl

/-- A byte of work RAM is read at its own address and at its echo (R80). -/
theorem State.busRead_write_wram (s : State) {i : Nat} {x : Word} (v : Byte)
    (hown : 0xC000 ≤ x.toNat → x.toNat ≤ 0xDFFF → x.toNat - 0xC000 ≠ i)
    (hecho : 0xE000 ≤ x.toNat → x.toNat ≤ 0xFDFF → x.toNat - 0x2000 - 0xC000 ≠ i) :
    ({ s with wram := Memory.write s.wram i v } : State).busRead x = s.busRead x := by
  apply State.busRead_congr
  case wram => exact fun h1 h2 => Memory.read_write_other _ v (hown h1 h2)
  case echo => exact fun h1 h2 => Memory.read_write_other _ v (hecho h1 h2)
  all_goals intros; rfl

/-- DMA has no value of its own to read (10_state.md R41). -/
theorem State.ioRead_dma (s : State) : s.ioRead 0xFF46 = 0xFF := by
  rw [State.ioRead, show (0xFF46 : Nat) = IoReg.dma.addr from rfl, ioRegAt_addr]; rfl

/-- A register write reaches its own address, and DMA, whose address reads as before, reaches OAM (R96). -/
theorem State.busRead_ioWrite (s : State) {a x : Word} (v : Byte) (h1 : 0xFF00 ≤ a.toNat) (h2 : a.toNat ≤ 0xFF7F)
    (h : ¬ s.touches a x) : (s.ioWrite a.toNat v).busRead x = s.busRead x := by
  obtain ⟨hcart, hwram, hhram, hie, -, -⟩ := State.ioWrite_fixed s a.toNat v
  obtain ⟨hvram, hoam⟩ := State.ioWrite_vram_oam s a.toNat v
  simp only [State.touches] at h
  iterate 7 rw [if_neg (by omega)] at h
  apply State.busRead_congr
  case oam =>
    intro hx1 hx2
    rw [hoam]
    intro ha
    exact h (if_pos ha ▸ ⟨hx1, hx2⟩)
  case io =>
    intro hx1 hx2
    by_cases hxa : x.toNat = a.toNat
    · by_cases ha : a.toNat = 0xFF46
      · rw [hxa, ha, State.ioRead_dma, State.ioRead_dma]
      · exact absurd (if_neg ha ▸ hxa) h
    · exact State.ioRead_ioWrite s v hxa
  all_goals intros; simp only [hcart, hwram, hhram, hie, hvram]

/-- Every address a bus write cannot reach reads as before. -/
theorem State.busRead_busWrite_of_not_touches (s : State) {a x : Word} (v : Byte) (h : ¬ s.touches a x) :
    (s.busWrite a v).busRead x = s.busRead x := by
  apply State.busWrite_cases (P := fun t => t.busRead x = s.busRead x)
  case rom => exact fun ha => s.busRead_write_rom v ha h
  case vram =>
    intro h1 h2
    simp only [State.touches] at h
    rw [if_neg (by omega), if_pos h2] at h
    apply State.busRead_congr
    case vram => exact fun _ _ => Memory.read_write_other _ v (by omega)
    all_goals intros; rfl
  case xram =>
    intro h1 h2
    simp only [State.touches] at h
    iterate 2 rw [if_neg (by omega)] at h
    rw [if_pos h2] at h
    apply State.busRead_congr
    case rom => exact fun _ => Cartridge.read_ramWrite _ _ _ v
    case xram =>
      refine fun hx1 hx2 => Cartridge.ramRead_ramWrite _ v ?_
      by_contra hno
      obtain ⟨hmapped, hsame⟩ := not_or.1 hno
      exact h ⟨⟨hx1, hx2⟩, hmapped, not_not.1 hsame⟩
    all_goals intros; rfl
  case wram =>
    intro h1 h2
    simp only [State.touches] at h
    iterate 3 rw [if_neg (by omega)] at h
    rw [if_pos h2] at h
    exact s.busRead_write_wram v (by omega) (by omega)
  case echo =>
    intro h1 h2
    simp only [State.touches] at h
    iterate 4 rw [if_neg (by omega)] at h
    rw [if_pos h2] at h
    exact s.busRead_write_wram v (by omega) (by omega)
  case oam =>
    intro h1 h2
    simp only [State.touches] at h
    iterate 5 rw [if_neg (by omega)] at h
    rw [if_pos h2] at h
    apply State.busRead_congr
    case oam => exact fun _ _ => Memory.read_write_other _ v (by omega)
    all_goals intros; rfl
  case unusable => intros; rfl
  case io => exact fun h1 h2 => s.busRead_ioWrite v h1 h2 h
  case hram =>
    intro h1 h2
    simp only [State.touches] at h
    iterate 8 rw [if_neg (by omega)] at h
    apply State.busRead_congr
    case hram => exact fun _ _ => Memory.read_write_other _ v (by omega)
    all_goals intros; rfl
  case ie =>
    intro h1
    simp only [State.touches] at h
    iterate 8 rw [if_neg (by omega)] at h
    apply State.busRead_congr
    case ie => exact fun _ => absurd (by omega) h
    all_goals intros; rfl

/-- A bus write is the one store of `StoresOne`, whatever becomes of the CPU. -/
theorem storesOne_busWrite (s : State) (a : Word) (v : Byte) (c : Cpu) :
    StoresOne a v s { s.busWrite a v with cpu := c } :=
  ⟨rfl, fun _ h => s.busRead_busWrite_of_not_touches v h⟩

end Sys2Proof.Machine
end

section
/-! # Frames of register updates (10_state.md R20 to R22)

`SameOutsideCpu`, `CpuFrame` and `RegFrame` compose along a run of updates; what a write to a register and one to HL
leave unchanged; HL after it is written and after a bus write; and the two moves of HL as numbers. -/

namespace Sys2Proof.Machine

/-! ## Composition -/

theorem sameOutsideCpu_setCpu (s : State) (c : Cpu) : SameOutsideCpu s { s with cpu := c } := ⟨rfl, fun _ => rfl⟩

theorem SameOutsideCpu.trans {s t u : State} (h : SameOutsideCpu s t) (g : SameOutsideCpu t u) :
    SameOutsideCpu s u := by
  obtain ⟨ht, hread⟩ := h
  obtain ⟨hu, gread⟩ := g
  refine ⟨?_, fun x => (gread x).trans (hread x)⟩
  rw [hu, ht]

theorem State.reg_of_cpu_eq {s t : State} (h : t.cpu = s.cpu) (r : Reg8) : t.reg r = s.reg r := by
  cases r <;> simp only [State.reg, h]

theorem cpuFrame_of_cpu_eq {s t : State} (h : t.cpu = s.cpu) (qs : List Reg8) : CpuFrame qs s t :=
  ⟨fun r _ => State.reg_of_cpu_eq h r, by rw [h], by rw [h], by rw [h], by rw [h]⟩

theorem CpuFrame.trans {ps qs : List Reg8} {s t u : State} (h : CpuFrame ps s t) (g : CpuFrame qs t u) :
    CpuFrame (ps ++ qs) s u := by
  obtain ⟨hreg, hsp, hpc, hhalt, hime⟩ := h
  obtain ⟨greg, gsp, gpc, ghalt, gime⟩ := g
  refine ⟨fun r hr => ?_, gsp.trans hsp, gpc.trans hpc, ghalt.trans hhalt, gime.trans hime⟩
  obtain ⟨hp, hq⟩ := not_or.1 (List.mem_append.not.1 hr)
  exact (greg r hq).trans (hreg r hp)

theorem RegFrame.trans {ps qs : List Reg8} {s t u : State} (h : RegFrame ps s t) (g : RegFrame qs t u) :
    RegFrame (ps ++ qs) s u := ⟨h.1.trans g.1, h.2.trans g.2⟩

/-! ## One update -/

theorem sameOutsideCpu_setReg (s : State) (q : Reg8) (v : Byte) : SameOutsideCpu s (s.setReg q v) := by
  cases q <;> exact sameOutsideCpu_setCpu s _

theorem regFrame_setReg (s : State) (q : Reg8) (v : Byte) : RegFrame [q] s (s.setReg q v) := by
  refine ⟨sameOutsideCpu_setReg s q v, fun r hr => ?_, by simp, by simp, by simp, by simp⟩
  exact s.reg_setReg_other v (List.mem_singleton.not.1 hr)

theorem regFrame_setHl (s : State) (v : Word) : RegFrame [.h, .l] s (s.setHl v) := by
  refine ⟨sameOutsideCpu_setCpu s _, fun r hr => ?_, rfl, rfl, rfl, rfl⟩
  cases r
  case h | l => simp at hr
  all_goals rfl

@[simp] theorem State.hl_setHl (s : State) (v : Word) : (s.setHl v).hl = v := join_hiByte_loByte v

@[simp] theorem State.hl_busWrite (s : State) (a : Word) (v : Byte) : (s.busWrite a v).hl = s.hl := by
  simp only [State.hl, State.busWrite_cpu]

/-! ## The moves of HL -/

theorem opHlUp_hl_toNat (s : State) : (opHlUp s).hl.toNat = (s.hl.toNat + 1) % 65536 := by
  rw [opHlUp, State.hl_setHl]; exact BitVec.toNat_add _ _

theorem opHlDown_hl_toNat (s : State) : (opHlDown s).hl.toNat = (s.hl.toNat + 65535) % 65536 := by
  rw [opHlDown, State.hl_setHl, Nat.add_comm]; exact BitVec.toNat_sub _ _

end Sys2Proof.Machine
end

section
/-! # The 8-bit loads (40_load8.md R160 to R178)

`opLoad` and `opStore` give what `LoadsByte` and `StoresByte` ask of an instruction, whatever the address; the moves of
HL come on top of them. The obligations are then assembled: encoding, cost and the shared operation of each row. -/

namespace Sys2Proof.Machine

/-! ## Costs of the primary map -/

theorem Instr.row_of_encode {i : Instr} {op : Byte} {operands : List Byte} (he : encode i = op :: operands)
    (hop : op ≠ 0xCB) : i.row = op.toNat := by
  unfold Instr.row
  rw [he]
  cases operands with
  | nil => rfl
  | cons n rest => exact if_neg hop

/-- `HasCost` from the first byte, where it is not `0xCB`: the last hypothesis evaluates. -/
theorem hasCost_of_encode {i : Instr} {n : Nat} {op : Byte} {operands : List Byte} (he : encode i = op :: operands)
    (hc : Instr.condition i = none) (h : (op != 0xCB && defaultCost op.toNat true == n) = true) : HasCost i n := by
  simp only [Bool.and_eq_true, bne_iff_ne, beq_iff_eq] at h
  obtain ⟨hop, hcost⟩ := h
  have hrow := Instr.row_of_encode he hop
  refine hasCost_of_row ?_ hc (hrow ▸ hcost)
  rintro rfl
  exact hop (List.cons.inj he).1.symm

/-! ## The shared operations -/

theorem loadsByte_of_opLoad {i : Instr} {q : Reg8} {a : State → Word}
    (h : ∀ s, exec i s = .next (opLoad q (a s) s)) : LoadsByte i q a :=
  fun s => ⟨_, h s, State.reg_setReg_same s q _, State.setReg_cpu_f s q _, regFrame_setReg s q _⟩

theorem storesByte_of_opStore {i : Instr} {a : State → Word} {v : State → Byte}
    (h : ∀ s, exec i s = .next (opStore (a s) (v s) s)) : StoresByte i a v :=
  fun s => ⟨_, h s, storesOne_busWrite s _ _ _, State.busWrite_cpu s _ _⟩

/-- What both loads of A that move HL do to the rest: the byte is read before HL moves. -/
theorem regFrame_opLoad_setHl (s : State) (a w : Word) : RegFrame [.a, .h, .l] s ((opLoad .a a s).setHl w) :=
  (regFrame_setReg s .a _).trans (regFrame_setHl _ w)

/-- What both stores of A that move HL do to the rest of the CPU. -/
theorem cpuFrame_opStore_setHl (s : State) (a w : Word) (v : Byte) : CpuFrame [.h, .l] s ((opStore a v s).setHl w) :=
  (cpuFrame_of_cpu_eq (s.busWrite_cpu a v) []).trans (regFrame_setHl _ w).2

theorem opStore_setHl_f (s : State) (a w : Word) (v : Byte) : ((opStore a v s).setHl w).cpu.f = s.cpu.f := by
  rw [State.setHl_cpu_f, opStore, State.busWrite_cpu]

theorem storesOne_opStore_setHl (s : State) (a w : Word) (v : Byte) : StoresOne a v s ((opStore a v s).setHl w) :=
  storesOne_busWrite s a v _

/-! ## The obligations -/

theorem encode_ldRR (q r : Reg8) : encode (Instr.ldRR q r) = [xyz 1 q.code r.code] := by
  cases q <;> cases r <;> rfl

theorem hasCost_ldRR (q r : Reg8) : HasCost (Instr.ldRR q r) 4 := by
  cases q <;> cases r <;> exact hasCost_of_encode rfl rfl rfl

/-- Settles O6: in each of its 49 forms the instruction is one write to a register, of a byte the old registers hold. -/
theorem loadRegReg : Obligations.LoadRegReg := fun q r =>
  ⟨encode_ldRR q r, hasCost_ldRR q r, fun s => ⟨s.setReg q (s.reg r), exec_ldRR q r s, s.reg_setReg_same q _,
    s.setReg_cpu_f q _, regFrame_setReg s q _⟩⟩

theorem encode_ldRN (q : Reg8) (n : Byte) : encode (Instr.ldRN q n) = [xyz 0 q.code 6, n] := by cases q <;> rfl

theorem hasCost_ldRN (q : Reg8) (n : Byte) : HasCost (Instr.ldRN q n) 8 := by
  cases q <;> exact hasCost_of_encode rfl rfl rfl

/-- Settles O7: one write to a register, of the operand byte. -/
theorem loadRegImmediate : Obligations.LoadRegImmediate := fun q n =>
  ⟨encode_ldRN q n, hasCost_ldRN q n, fun s => ⟨s.setReg q n, exec_ldRN q n s, s.reg_setReg_same q n,
    s.setReg_cpu_f q n, regFrame_setReg s q n⟩⟩

theorem encode_ldRHl (q : Reg8) : encode (Instr.ldRHl q) = [xyz 1 q.code 6] := by cases q <;> rfl

theorem hasCost_ldRHl (q : Reg8) : HasCost (Instr.ldRHl q) 8 := by
  cases q <;> exact hasCost_of_encode rfl rfl rfl

/-- Settles O8: every form is `opLoad` at its own address; that of `a8` and `(C)` is `0xFF00` plus the byte. -/
theorem loadRegMemory : Obligations.LoadRegMemory := by
  refine ⟨fun q => ⟨encode_ldRHl q, hasCost_ldRHl q, loadsByte_of_opLoad (exec_ldRHl q)⟩,
    ⟨rfl, hasCost_of_encode rfl rfl rfl, loadsByte_of_opLoad fun _ => rfl⟩,
    ⟨rfl, hasCost_of_encode rfl rfl rfl, loadsByte_of_opLoad fun _ => rfl⟩,
    fun a => ⟨rfl, hasCost_of_encode rfl rfl rfl, loadsByte_of_opLoad fun _ => rfl⟩,
    fun n => ⟨rfl, hasCost_of_encode rfl rfl rfl, loadsByte_of_opLoad fun s => ?_⟩,
    ⟨rfl, hasCost_of_encode rfl rfl rfl, loadsByte_of_opLoad fun s => ?_⟩⟩
  · rw [← highPage_eq]; rfl
  · rw [← highPage_eq]; rfl

/-- Settles O9: the load of A, then the move of HL. -/
theorem loadAThenMoveHl : Obligations.LoadAThenMoveHl :=
  ⟨rfl, hasCost_of_encode rfl rfl rfl, rfl, hasCost_of_encode rfl rfl rfl, fun s =>
    ⟨⟨opHlUp (opLoad .a s.hl s), rfl, rfl, opHlUp_hl_toNat _, rfl, regFrame_opLoad_setHl s s.hl _⟩,
      ⟨opHlDown (opLoad .a s.hl s), rfl, rfl, opHlDown_hl_toNat _, rfl, regFrame_opLoad_setHl s s.hl _⟩⟩⟩

theorem encode_ldHlR (r : Reg8) : encode (Instr.ldHlR r) = [xyz 1 6 r.code] := by cases r <;> rfl

theorem hasCost_ldHlR (r : Reg8) : HasCost (Instr.ldHlR r) 8 := by
  cases r <;> exact hasCost_of_encode rfl rfl rfl

/-- Settles O10: every form is `opStore` at its own address, and a bus write changes no reading it cannot reach. -/
theorem storeMemory : Obligations.StoreMemory := by
  refine ⟨fun r => ⟨encode_ldHlR r, hasCost_ldHlR r, storesByte_of_opStore (exec_ldHlR r)⟩,
    fun n => ⟨rfl, hasCost_of_encode rfl rfl rfl, storesByte_of_opStore fun _ => rfl⟩,
    ⟨rfl, hasCost_of_encode rfl rfl rfl, storesByte_of_opStore fun _ => rfl⟩,
    ⟨rfl, hasCost_of_encode rfl rfl rfl, storesByte_of_opStore fun _ => rfl⟩,
    fun a => ⟨rfl, hasCost_of_encode rfl rfl rfl, storesByte_of_opStore fun _ => rfl⟩,
    fun n => ⟨rfl, hasCost_of_encode rfl rfl rfl, storesByte_of_opStore fun s => ?_⟩,
    ⟨rfl, hasCost_of_encode rfl rfl rfl, storesByte_of_opStore fun s => ?_⟩⟩
  · rw [← highPage_eq]; rfl
  · rw [← highPage_eq]; rfl

/-- Settles O11: the store at the old HL, then the move of HL, which the store has not changed. -/
theorem storeAThenMoveHl : Obligations.StoreAThenMoveHl := by
  refine ⟨rfl, hasCost_of_encode rfl rfl rfl, rfl, hasCost_of_encode rfl rfl rfl, fun s =>
    ⟨⟨opHlUp (opStore s.hl s.cpu.a s), rfl, storesOne_opStore_setHl s _ _ _, ?_, opStore_setHl_f s _ _ _,
        cpuFrame_opStore_setHl s _ _ _⟩,
      ⟨opHlDown (opStore s.hl s.cpu.a s), rfl, storesOne_opStore_setHl s _ _ _, ?_, opStore_setHl_f s _ _ _,
        cpuFrame_opStore_setHl s _ _ _⟩⟩⟩
  · rw [opHlUp_hl_toNat, opStore, State.hl_busWrite]
  · rw [opHlDown_hl_toNat, opStore, State.hl_busWrite]

end Sys2Proof.Machine
end

section
/-! # Frames of pair updates and the stack (10_state.md R22, 41_load16.md R190)

What a write to a pair, of either kind, leaves unchanged; `StoresTwo` of two bus writes and `Pushes` of a push; and the
byte view of `F` as a sum. -/

namespace Sys2Proof.Machine

/-! ## The pairs with SP -/

theorem sameOutsideCpu_setPair (s : State) (p : Pair) (v : Word) : SameOutsideCpu s (s.setPair p v) := by
  cases p <;> exact sameOutsideCpu_setCpu s _

theorem State.reg_setPair_other (s : State) {p : Pair} {r : Reg8} (v : Word) (h : r ∉ Pair.regs p) :
    (s.setPair p v).reg r = s.reg r := by
  cases p <;> cases r
  case bc.b | bc.c | de.d | de.e | hl.h | hl.l => simp [Pair.regs] at h
  all_goals rfl

theorem State.setPair_cpu_sp_of_ne (s : State) {p : Pair} (v : Word) (h : p ≠ .sp) :
    (s.setPair p v).cpu.sp = s.cpu.sp := by
  cases p
  case sp => exact absurd rfl h
  all_goals rfl

theorem pairFrame_setPair (s : State) (p : Pair) (v : Word) : PairFrame p s (s.setPair p v) :=
  ⟨sameOutsideCpu_setPair s p v, fun _ h => s.reg_setPair_other v h, fun h => s.setPair_cpu_sp_of_ne v h,
    s.setPair_cpu_pc p v, s.setPair_cpu_halt p v, s.setPair_cpu_ime p v⟩

/-! ## The pairs with AF -/

theorem sameOutsideCpu_setStackPair (s : State) (p : StackPair) (v : Word) :
    SameOutsideCpu s (s.setStackPair p v) := by
  cases p <;> exact sameOutsideCpu_setCpu s _

theorem State.reg_setStackPair_other (s : State) {p : StackPair} {r : Reg8} (v : Word) (h : r ∉ StackPair.regs p) :
    (s.setStackPair p v).reg r = s.reg r := by
  cases p <;> cases r
  case bc.b | bc.c | de.d | de.e | hl.h | hl.l | af.a => simp [StackPair.regs] at h
  all_goals rfl

theorem State.setStackPair_cpu_f_of_ne (s : State) {p : StackPair} (v : Word) (h : p ≠ .af) :
    (s.setStackPair p v).cpu.f = s.cpu.f := by
  cases p
  case af => exact absurd rfl h
  all_goals rfl

/-- The byte view of `F` as a sum: bits 7 to 4 are the flags, the low nibble is 0 (R21). -/
theorem Flags.toByte_eq_ofNat (f : Flags) :
    f.toByte = BitVec.ofNat 8 (128 * f.z.toNat + 64 * f.n.toNat + 32 * f.h.toNat + 16 * f.c.toNat) := by
  obtain ⟨z, n, h, c⟩ := f
  revert z n h c
  decide

/-! ## Two stores -/

/-- Two bus writes are the two stores of `StoresTwo`, whatever becomes of the CPU. -/
theorem storesTwo_busWrite (s : State) (a b : Word) (v w : Byte) (c : Cpu) :
    StoresTwo a v b w s { (s.busWrite a v).busWrite b w with cpu := c } := by
  refine ⟨rfl, fun x ha hb => ?_⟩
  calc ((s.busWrite a v).busWrite b w).busRead x
    _ = (s.busWrite a v).busRead x := State.busRead_busWrite_of_not_touches _ w hb
    _ = s.busRead x := State.busRead_busWrite_of_not_touches _ v ha

theorem pushes_push16 (s : State) (v : Word) : Pushes v s (s.push16 v) :=
  storesTwo_busWrite s _ _ _ _ _

end Sys2Proof.Machine
end

section
/-! # The 16-bit loads and the stack (41_load16.md R191 to R195)

Each obligation is assembled from the encoding, the cost and the shared operation of its rows. -/

namespace Sys2Proof.Machine

theorem encode_ldPairNN (p : Pair) (v : Word) :
    encode (Instr.ldPairNN p v) = [xyz 0 (2 * p.code) 1, loByte v, hiByte v] := by cases p <;> rfl

theorem hasCost_ldPairNN (p : Pair) (v : Word) : HasCost (Instr.ldPairNN p v) 12 := by
  cases p <;> exact hasCost_of_encode rfl rfl rfl

/-- Settles O12: every form is one write to a pair; `LD SP,HL` is the write of HL to SP. -/
theorem loadPair : Obligations.LoadPair :=
  ⟨fun p v => ⟨encode_ldPairNN p v, hasCost_ldPairNN p v, fun s => ⟨s.setPair p v, exec_ldPairNN p v s,
      s.pair_setPair_same p v, s.setPair_cpu_f p v, pairFrame_setPair s p v⟩⟩,
    rfl, hasCost_of_encode rfl rfl rfl,
    fun s => ⟨s.setPair .sp s.hl, rfl, rfl, rfl, pairFrame_setPair s .sp s.hl⟩⟩

/-- `LD (a16),SP` is two bus writes (R193), and these leave the CPU alone. -/
theorem opStoreSp_cpu (a : Word) (s : State) : (opStoreSp a s).cpu = s.cpu := by
  rw [opStoreSp, State.busWrite_cpu, State.busWrite_cpu]

/-- Settles O13: the two bytes of SP are its two halves as bit fields. -/
theorem storeSp : Obligations.StoreSp := fun a =>
  ⟨rfl, hasCost_of_encode rfl rfl rfl, fun s => ⟨opStoreSp a s, rfl, storesTwo_busWrite s a (a + 1) _ _ _,
    opStoreSp_cpu a s⟩⟩

theorem encode_push (p : StackPair) : encode (Instr.push p) = [xyz 3 (2 * p.code) 5] := by cases p <;> rfl

theorem hasCost_push (p : StackPair) : HasCost (Instr.push p) 16 := by
  cases p <;> exact hasCost_of_encode rfl rfl rfl

/-- Settles O14: `PUSH` is `Push16` of the pair, and of AF the low byte is the byte view of `F`. -/
theorem pushPair : Obligations.PushPair := fun p =>
  ⟨encode_push p, hasCost_push p, fun s =>
    ⟨⟨s.push16 (s.stackPair p), exec_push p s, pushes_push16 s _, s.push16_cpu _⟩, rfl, rfl, rfl,
      congrArg (join s.cpu.a) s.cpu.f.toByte_eq_ofNat⟩⟩

theorem encode_pop (p : StackPair) : encode (Instr.pop p) = [xyz 3 (2 * p.code) 1] := by cases p <;> rfl

theorem hasCost_pop (p : StackPair) : HasCost (Instr.pop p) 12 := by
  cases p <;> exact hasCost_of_encode rfl rfl rfl

/-- `POP` moves `SP` up and then writes to the pair the word that was on top of the stack (R195). -/
theorem opPop_eq (p : StackPair) (s : State) :
    opPop p s = (s.setSp (s.cpu.sp + 2)).setStackPair p s.stackTop := rfl

theorem opPop_stackPair (s : State) {p : StackPair} (h : p ≠ .af) : (opPop p s).stackPair p = s.stackTop := by
  rw [opPop_eq, State.stackPair_setStackPair, if_neg h]

theorem opPop_af_a (s : State) : (opPop .af s).cpu.a = s.busRead (s.cpu.sp + 1) :=
  hiByte_join _ _

theorem opPop_af_f (s : State) : (opPop .af s).cpu.f = Flags.ofByte (s.busRead s.cpu.sp) :=
  congrArg Flags.ofByte (loByte_join _ _)

theorem sameOutsideCpu_opPop (p : StackPair) (s : State) : SameOutsideCpu s (opPop p s) :=
  (sameOutsideCpu_setCpu s _).trans (sameOutsideCpu_setStackPair (s.setSp (s.cpu.sp + 2)) p s.stackTop)

theorem opPop_reg_other (s : State) {p : StackPair} {r : Reg8} (h : r ∉ StackPair.regs p) :
    (opPop p s).reg r = s.reg r := by
  rw [opPop_eq, State.reg_setStackPair_other _ _ h]
  cases r <;> rfl

/-- Settles O15: SP moves, then the pair is written; for AF the low byte gives the flags. -/
theorem popPair : Obligations.PopPair := by
  refine fun p => ⟨encode_pop p, hasCost_pop p, fun s => ⟨opPop p s, exec_pop p s, ?_, fun h => ⟨?_, ?_⟩, ?_,
    sameOutsideCpu_opPop p s, fun r h => opPop_reg_other s h, ?_, ?_, ?_⟩⟩
  · simp [opPop_eq]
  · exact opPop_stackPair s h
  · rw [opPop_eq, State.setStackPair_cpu_f_of_ne _ _ h]; rfl
  · rintro rfl
    exact ⟨opPop_af_a s, opPop_af_f s⟩
  · simp [opPop_eq]
  · simp [opPop_eq]
  · simp [opPop_eq]

end Sys2Proof.Machine
end

section
/-! # Results and flags of the 8-bit arithmetic (42_alu8.md R200, R225, R227)

Each flag computation as numbers: the result byte by its value, the flags as conditions on sums, differences and
remainders. -/

namespace Sys2Proof.Machine

/-! ## Bytes compared as numbers -/

theorem Byte.beq_eq_decide_toNat (v w : Byte) : (v == w) = decide (v.toNat = w.toNat) := by
  rw [beq_eq_decide]
  exact decide_eq_decide.2 BitVec.toNat_inj.symm

theorem lowNibble_toNat (v : Byte) : (v &&& 0xF).toNat = v.toNat % 16 := by
  rw [BitVec.toNat_and]
  exact Nat.and_two_pow_sub_one_eq_mod v.toNat 4

/-! ## `Add8` and `Sub8` -/

theorem add8_val_toNat (a v : Byte) (cin : Bool) :
    (add8 a v cin).val.toNat = (a.toNat + v.toNat + bit cin) % 256 :=
  BitVec.toNat_ofNat _ _

theorem add8_f (a v : Byte) (cin : Bool) :
    (add8 a v cin).f =
      { z := decide ((a.toNat + v.toNat + bit cin) % 256 = 0), n := false,
        h := decide (a.toNat % 16 + v.toNat % 16 + bit cin > 15), c := decide (a.toNat + v.toNat + bit cin > 255) } := by
  rw [← add8_val_toNat]
  exact congrArg (Flags.mk · _ _ _) (Byte.beq_eq_decide_toNat _ _)

theorem sub8_val_toNat (a v : Byte) (cin : Bool) :
    ((sub8 a v cin).val.toNat : Int) = ((a.toNat : Int) - v.toNat - bit cin) % 256 := by
  have hval : (sub8 a v cin).val.toNat = (((a.toNat : Int) - v.toNat - bit cin) % 256).toNat := BitVec.toNat_ofInt _
  omega

theorem sub8_f (a v : Byte) (cin : Bool) :
    (sub8 a v cin).f =
      { z := decide (((a.toNat : Int) - v.toNat - bit cin) % 256 = 0), n := true,
        h := decide (a.toNat % 16 < v.toNat % 16 + bit cin), c := decide ((a.toNat : Int) - v.toNat - bit cin < 0) } := by
  have hzero : ((sub8 a v cin).val == 0) = decide (((a.toNat : Int) - v.toNat - bit cin) % 256 = 0) := by
    rw [Byte.beq_eq_decide_toNat, ← sub8_val_toNat]
    exact decide_eq_decide.2 Int.natCast_eq_zero.symm
  have hborrow : decide (a.toNat < v.toNat + bit cin) = decide ((a.toNat : Int) - v.toNat - bit cin < 0) :=
    decide_eq_decide.2 (by omega)
  rw [← hzero, ← hborrow]
  rfl

/-! ## The operations of R137 -/

/-- Of the two additions `ADC` alone has a carry-in (R204). -/
theorem aluResult_addition {op : AluOp} (h : op = .add ∨ op = .adc) (a v : Byte) (carry : Bool) :
    aluResult op a v carry = add8 a v (decide (op = .adc ∧ carry = true)) := by
  rcases h with rfl | rfl
  · rfl
  · cases carry <;> rfl

/-- `CP` computes what `SUB` computes (R222). -/
theorem aluResult_subtraction {op : AluOp} (h : op = .sub ∨ op = .cp) (a v : Byte) (carry : Bool) :
    aluResult op a v carry = sub8 a v false := by
  rcases h with rfl | rfl <;> rfl

theorem aluResult_logic_bit {op : AluOp} (h : op = .and ∨ op = .xor ∨ op = .or) (a v : Byte) (carry : Bool) (k : Nat) :
    (aluResult op a v carry).val.getLsbD k =
      if op = .and then a.getLsbD k && v.getLsbD k
      else if op = .xor then a.getLsbD k != v.getLsbD k
      else a.getLsbD k || v.getLsbD k := by
  rcases h with rfl | rfl | rfl
  · exact BitVec.getLsbD_and
  · exact BitVec.getLsbD_xor
  · exact BitVec.getLsbD_or

theorem aluResult_logic_f {op : AluOp} (h : op = .and ∨ op = .xor ∨ op = .or) (a v : Byte) (carry : Bool) :
    (aluResult op a v carry).f =
      { z := decide ((aluResult op a v carry).val.toNat = 0), n := false, h := decide (op = .and), c := false } := by
  have hzero := Byte.beq_eq_decide_toNat (aluResult op a v carry).val 0
  rcases h with rfl | rfl | rfl <;> exact congrArg (Flags.mk · _ _ _) hzero

/-! ## `INC` and `DEC` of a byte -/

theorem inc8_val (v : Byte) (f : Flags) : (inc8 v f).val = BitVec.ofNat 8 (v.toNat + 1) :=
  BitVec.eq_of_toNat_eq (by simp [inc8])

theorem dec8_val (v : Byte) (f : Flags) : (dec8 v f).val = BitVec.ofNat 8 (v.toNat + 255) :=
  BitVec.eq_of_toNat_eq (by simp [dec8, BitVec.toNat_sub, Nat.add_comm])

theorem inc8_f (v : Byte) (f : Flags) :
    (inc8 v f).f =
      { z := decide ((inc8 v f).val.toNat = 0), n := false, h := decide ((inc8 v f).val.toNat % 16 = 0), c := f.c } := by
  rw [← lowNibble_toNat]
  exact congrArg₂ (Flags.mk · _ · _) (Byte.beq_eq_decide_toNat _ _) (Byte.beq_eq_decide_toNat _ _)

theorem dec8_f (v : Byte) (f : Flags) :
    (dec8 v f).f =
      { z := decide ((dec8 v f).val.toNat = 0), n := true, h := decide ((dec8 v f).val.toNat % 16 = 15), c := f.c } := by
  rw [← lowNibble_toNat]
  exact congrArg₂ (Flags.mk · _ · _) (Byte.beq_eq_decide_toNat _ _) (Byte.beq_eq_decide_toNat _ _)

end Sys2Proof.Machine
end

section
/-! # The 8-bit arithmetic and logic on the state (42_alu8.md R201 to R232)

What a write to a register followed by one to the flags leaves, what `opAlu` leaves in A and in the flags, and the three
operand forms as one. The obligations are then assembled: encoding, cost, result and flags, frame. -/

namespace Sys2Proof.Machine

/-! ## A register, then the flags -/

theorem regFrame_setFlags (s : State) (f : Flags) : RegFrame [] s (s.setFlags f) := by
  refine ⟨sameOutsideCpu_setCpu s _, fun r _ => ?_, rfl, rfl, rfl, rfl⟩
  cases r <;> rfl

theorem State.reg_setFlags (s : State) (f : Flags) (r : Reg8) : (s.setFlags f).reg r = s.reg r := by
  cases r <;> rfl

theorem regFrame_setReg_setFlags (s : State) (q : Reg8) (v : Byte) (f : Flags) :
    RegFrame [q] s ((s.setReg q v).setFlags f) :=
  (regFrame_setReg s q v).trans (regFrame_setFlags _ f)

/-! ## The operations on A -/

theorem opAlu_cpu_f (op : AluOp) (v : Byte) (s : State) :
    (opAlu op v s).cpu.f = (aluResult op s.cpu.a v s.cpu.f.c).f := by
  unfold opAlu
  split <;> rfl

theorem opAlu_cpu_a {op : AluOp} (h : op ≠ .cp) (v : Byte) (s : State) :
    (opAlu op v s).cpu.a = (aluResult op s.cpu.a v s.cpu.f.c).val := by
  rw [opAlu, if_neg h]
  rfl

theorem regFrame_opAlu (op : AluOp) (v : Byte) (s : State) :
    RegFrame (if op = .cp then [] else [.a]) s (opAlu op v s) := by
  unfold opAlu
  split
  · exact regFrame_setFlags s _
  · exact regFrame_setReg_setFlags s .a _ _

theorem regFrame_opAlu_of_ne {op : AluOp} (h : op ≠ .cp) (v : Byte) (s : State) : RegFrame [.a] s (opAlu op v s) := by
  simpa only [if_neg h] using regFrame_opAlu op v s

/-- The three forms differ in the operand alone. -/
theorem exec_of_aluForm {op : AluOp} {s : State} {i : Instr} {v : Byte} (h : AluForm op s i v) :
    exec i s = .next (opAlu op v s) := by
  rcases h with ⟨r, rfl, rfl⟩ | ⟨rfl, rfl⟩ | rfl
  · exact exec_aluR op r s
  · exact exec_aluHl op s
  · exact exec_aluN op v s

theorem encode_aluR (op : AluOp) (r : Reg8) : encode (Instr.aluR op r) = [xyz 2 op.code r.code] := by
  cases op <;> cases r <;> rfl

theorem hasCost_aluR (op : AluOp) (r : Reg8) : HasCost (Instr.aluR op r) 4 := by
  cases op <;> cases r <;> exact hasCost_of_encode rfl rfl rfl

theorem encode_aluHl (op : AluOp) : encode (Instr.aluHl op) = [xyz 2 op.code 6] := by cases op <;> rfl

theorem hasCost_aluHl (op : AluOp) : HasCost (Instr.aluHl op) 8 := by
  cases op <;> exact hasCost_of_encode rfl rfl rfl

theorem encode_aluN (op : AluOp) (n : Byte) : encode (Instr.aluN op n) = [xyz 3 op.code 6, n] := by cases op <;> rfl

theorem hasCost_aluN (op : AluOp) (n : Byte) : HasCost (Instr.aluN op n) 8 := by
  cases op <;> exact hasCost_of_encode rfl rfl rfl

theorem aluShape (op : AluOp) : AluShape op :=
  ⟨fun r => ⟨encode_aluR op r, hasCost_aluR op r⟩, ⟨encode_aluHl op, hasCost_aluHl op⟩,
    fun n => ⟨encode_aluN op n, hasCost_aluN op n⟩⟩

/-- Settles O17: both are `Add8` on A, and the carry-in is that of `ADC`. -/
theorem addToA : Obligations.AddToA := by
  refine ⟨aluShape .add, aluShape .adc, fun op s i v hop hform => ?_⟩
  have hne : op ≠ .cp := by rcases hop with rfl | rfl <;> decide
  have hcin : (if op = .adc ∧ s.cpu.f.c = true then 1 else 0) = bit (decide (op = .adc ∧ s.cpu.f.c = true)) := by
    simp only [bit, decide_eq_true_eq]
  rw [hcin]
  refine ⟨opAlu op v s, exec_of_aluForm hform, ?_, ?_, regFrame_opAlu_of_ne hne v s⟩
  · rw [opAlu_cpu_a hne, aluResult_addition hop, add8_val_toNat]
  · rw [opAlu_cpu_f, aluResult_addition hop, add8_f]

/-- Settles O18: both are `Sub8` on A without a carry-in, and `CP` writes the flags alone. -/
theorem subtractFromA : Obligations.SubtractFromA := by
  refine ⟨aluShape .sub, aluShape .cp, fun op s i v hop hform =>
    ⟨opAlu op v s, exec_of_aluForm hform, fun hsub => ?_, ?_, regFrame_opAlu op v s⟩⟩
  · have hne : op ≠ .cp := by rw [hsub]; decide
    rw [opAlu_cpu_a hne, aluResult_subtraction hop, sub8_val_toNat]
    simp [bit]
  · rw [opAlu_cpu_f, aluResult_subtraction hop, sub8_f]
    simp [bit]

/-- Settles O20: the result bit by bit, and the flags from the result and the operation. -/
theorem logicWithA : Obligations.LogicWithA := by
  refine ⟨aluShape .and, aluShape .xor, aluShape .or, fun op s i v hop hform => ?_⟩
  have hne : op ≠ .cp := by rcases hop with rfl | rfl | rfl <;> decide
  refine ⟨opAlu op v s, exec_of_aluForm hform, fun k => ?_, ?_, regFrame_opAlu_of_ne hne v s⟩
  · rw [opAlu_cpu_a hne, aluResult_logic_bit hop]
  · rw [opAlu_cpu_f, opAlu_cpu_a hne, aluResult_logic_f hop]

/-! ## `INC` and `DEC` -/

theorem encode_incR (r : Reg8) : encode (Instr.incR r) = [xyz 0 r.code 4] := by cases r <;> rfl

theorem hasCost_incR (r : Reg8) : HasCost (Instr.incR r) 4 := by
  cases r <;> exact hasCost_of_encode rfl rfl rfl

theorem encode_decR (r : Reg8) : encode (Instr.decR r) = [xyz 0 r.code 5] := by cases r <;> rfl

theorem hasCost_decR (r : Reg8) : HasCost (Instr.decR r) 4 := by
  cases r <;> exact hasCost_of_encode rfl rfl rfl

theorem opInc_reg (r : Reg8) (s : State) : (opInc (.r r) s).reg r = (inc8 (s.reg r) s.cpu.f).val := by
  rw [opInc, State.reg_setFlags]
  exact State.reg_setReg_same s r _

theorem opDec_reg (r : Reg8) (s : State) : (opDec (.r r) s).reg r = (dec8 (s.reg r) s.cpu.f).val := by
  rw [opDec, State.reg_setFlags]
  exact State.reg_setReg_same s r _

/-- Settles O21: one write to the register, then the flags, which speak of the byte written. -/
theorem stepRegister : Obligations.StepRegister := by
  refine fun r => ⟨encode_incR r, hasCost_incR r, encode_decR r, hasCost_decR r, fun s =>
    ⟨⟨opInc (.r r) s, exec_incR r s, ?_, ?_, regFrame_setReg_setFlags s r _ _⟩,
      ⟨opDec (.r r) s, exec_decR r s, ?_, ?_, regFrame_setReg_setFlags s r _ _⟩⟩⟩
  · rw [opInc_reg, inc8_val]; exact BitVec.toNat_ofNat _ _
  · rw [opInc_reg]; exact inc8_f _ _
  · rw [opDec_reg, dec8_val]; exact BitVec.toNat_ofNat _ _
  · rw [opDec_reg]; exact dec8_f _ _

/-- `INC (HL)` and `DEC (HL)` are one bus write, then the flags: of the CPU the write changes nothing. -/
theorem busWrite_setFlags_cpu (s : State) (a : Word) (v : Byte) (f : Flags) :
    ((s.busWrite a v).setFlags f).cpu = { s.cpu with f := f } := by
  rw [State.setFlags, State.busWrite_cpu]

/-- Settles O22: the flags come from the sum, not from what the bus write made of it. -/
theorem stepMemory : Obligations.StepMemory := by
  refine ⟨rfl, hasCost_of_encode rfl rfl rfl, rfl, hasCost_of_encode rfl rfl rfl, fun s =>
    ⟨⟨opInc .hlMem s, rfl, ?_, ?_⟩, ⟨opDec .hlMem s, rfl, ?_, ?_⟩⟩⟩
  · rw [← inc8_val _ s.cpu.f]; exact storesOne_busWrite s s.hl _ _
  · rw [← inc8_val _ s.cpu.f, ← inc8_f]; exact busWrite_setFlags_cpu s s.hl _ _
  · rw [← dec8_val _ s.cpu.f]; exact storesOne_busWrite s s.hl _ _
  · rw [← dec8_val _ s.cpu.f, ← dec8_f]; exact busWrite_setFlags_cpu s s.hl _ _

/-! ## `CPL`, `SCF` and `CCF` -/

theorem toNat_xor_ones (v : Byte) : (v ^^^ 0xFF).toNat = 255 - v.toNat := by
  rw [show (0xFF : Byte) = BitVec.allOnes 8 from rfl, BitVec.xor_allOnes]
  exact BitVec.toNat_not

/-- Settles O24: `CPL` writes A and the flags, the other two the flags alone. -/
theorem complementAndCarry : Obligations.ComplementAndCarry :=
  ⟨rfl, hasCost_of_encode rfl rfl rfl, rfl, hasCost_of_encode rfl rfl rfl, rfl, hasCost_of_encode rfl rfl rfl, fun s =>
    ⟨⟨opCpl s, rfl, toNat_xor_ones s.cpu.a, rfl, regFrame_setReg_setFlags s .a _ _⟩,
      ⟨opScf s, rfl, rfl, regFrame_setFlags s _⟩, ⟨opCcf s, rfl, rfl, regFrame_setFlags s _⟩⟩⟩

end Sys2Proof.Machine
end

section
/-! # The 16-bit arithmetic (43_alu16.md R240 to R242)

`ADD HL,rr` is one write to HL, then the flags; `INC rr` and `DEC rr` are one write to the pair. -/

namespace Sys2Proof.Machine

/-! ## A pair, then the flags -/

theorem PairFrame.setFlags {p : Pair} {s t : State} (h : PairFrame p s t) (f : Flags) :
    PairFrame p s (t.setFlags f) := by
  obtain ⟨hout, hreg, hrest⟩ := h
  exact ⟨hout.trans (sameOutsideCpu_setCpu t _), fun r hr => (t.reg_setFlags f r).trans (hreg r hr), hrest⟩

/-! ## `ADD HL,rr` -/

theorem encode_addHl (p : Pair) : encode (Instr.addHl p) = [xyz 0 (2 * p.code + 1) 1] := by cases p <;> rfl

theorem hasCost_addHl (p : Pair) : HasCost (Instr.addHl p) 8 := by
  cases p <;> exact hasCost_of_encode rfl rfl rfl

theorem addHl16_val_toNat (hl v : Word) (f : Flags) :
    (addHl16 hl v f).val.toNat = (hl.toNat + v.toNat) % 65536 :=
  BitVec.toNat_ofNat _ _

theorem addHl16_f (hl v : Word) (f : Flags) :
    (addHl16 hl v f).f =
      { z := f.z, n := false, h := decide (hl.toNat % 4096 + v.toNat % 4096 > 4095),
        c := decide (hl.toNat + v.toNat > 65535) } := rfl

theorem opAddHl_hl (p : Pair) (s : State) : (opAddHl p s).hl = (addHl16 s.hl (s.pair p) s.cpu.f).val :=
  s.hl_setHl _

theorem pairFrame_opAddHl (p : Pair) (s : State) : PairFrame .hl s (opAddHl p s) :=
  (pairFrame_setPair s .hl _).setFlags _

/-- Settles O25: one write to HL, then the flags of `addHl16`, which carries Z over. -/
theorem addToHl : Obligations.AddToHl := fun p =>
  ⟨encode_addHl p, hasCost_addHl p, fun s =>
    ⟨opAddHl p s, exec_addHl p s, by rw [opAddHl_hl, addHl16_val_toNat],
      addHl16_f s.hl (s.pair p) s.cpu.f, pairFrame_opAddHl p s⟩⟩

/-! ## `INC rr` and `DEC rr` -/

theorem encode_incPair (p : Pair) : encode (Instr.incPair p) = [xyz 0 (2 * p.code) 3] := by cases p <;> rfl

theorem hasCost_incPair (p : Pair) : HasCost (Instr.incPair p) 8 := by
  cases p <;> exact hasCost_of_encode rfl rfl rfl

theorem encode_decPair (p : Pair) : encode (Instr.decPair p) = [xyz 0 (2 * p.code + 1) 3] := by cases p <;> rfl

theorem hasCost_decPair (p : Pair) : HasCost (Instr.decPair p) 8 := by
  cases p <;> exact hasCost_of_encode rfl rfl rfl

/-- Settles O26: one write to the pair, which leaves the flags; both moves wrap modulo 65536. -/
theorem stepPair : Obligations.StepPair := by
  refine fun p => ⟨encode_incPair p, hasCost_incPair p, encode_decPair p, hasCost_decPair p, fun s =>
    ⟨⟨s.setPair p (s.pair p + 1), exec_incPair p s, ?_, s.setPair_cpu_f p _, pairFrame_setPair s p _⟩,
      ⟨s.setPair p (s.pair p - 1), exec_decPair p s, ?_, s.setPair_cpu_f p _, pairFrame_setPair s p _⟩⟩⟩
  · rw [State.pair_setPair_same]; exact BitVec.toNat_add _ _
  · rw [State.pair_setPair_same, Nat.add_comm]; exact BitVec.toNat_sub _ _

end Sys2Proof.Machine
end

section
/-! # Rotates, shifts and single bits as numbers (44_rotate_shift_bit.md R250 to R276)

A byte moved up one place with a bit put in at the bottom is `BitVec.shiftConcat`; moved down one place with a bit put
in at the top it is `BitVec.cons` on its upper seven bits. What `rotBits` computes for each operation follows from the
value of these two; then the flags of `BIT` and the bits of `RES` and `SET`. -/

namespace Sys2Proof.Machine

/-! ## A bit put in at one end -/

theorem shiftLeft_or_ofBool (v : Byte) (b : Bool) : v <<< 1 ||| (BitVec.ofBool b).setWidth 8 = v.shiftConcat b := by
  ext i hi
  interval_cases i <;> simp

theorem shiftRight_or_ofBool (v : Byte) (b : Bool) :
    v >>> 1 ||| (BitVec.ofBool b).setWidth 8 <<< 7 = BitVec.cons b (v.extractLsb' 1 7) := by
  ext i hi
  interval_cases i <;> simp [BitVec.getElem_cons]

theorem shiftConcat_eq_ofNat (v : Byte) (b : Bool) : v.shiftConcat b = BitVec.ofNat 8 (2 * v.toNat + b.toNat) := by
  refine BitVec.eq_of_toNat_eq ?_
  rw [BitVec.toNat_shiftConcat, BitVec.toNat_ofNat, Nat.shiftLeft_eq, Nat.mul_comm]

theorem cons_extractLsb'_eq_ofNat (v : Byte) (b : Bool) :
    BitVec.cons b (v.extractLsb' 1 7) = BitVec.ofNat 8 (v.toNat / 2 + 128 * b.toNat) := by
  have hv := v.isLt
  have hb := b.toNat_lt
  refine BitVec.eq_of_toNat_eq ?_
  rw [BitVec.toNat_cons', BitVec.extractLsb'_toNat, BitVec.toNat_ofNat, Nat.shiftLeft_eq, Nat.shiftRight_eq_div_pow]
  omega

/-! ## The eight operations of R137 -/

theorem rotBits_rlc (v : Byte) (c : Bool) : rotBits .rlc v c = (v.rotateLeft 1, v.getLsbD 7) := by
  have hrot : v.shiftConcat (v.getLsbD 7) = v.rotateLeft 1 := by
    ext i hi
    interval_cases i <;> simp
  exact congrArg (·, v.getLsbD 7) ((shiftLeft_or_ofBool v _).trans hrot)

theorem rotBits_rrc (v : Byte) (c : Bool) : rotBits .rrc v c = (v.rotateRight 1, v.getLsbD 0) := by
  have hrot : BitVec.cons (v.getLsbD 0) (v.extractLsb' 1 7) = v.rotateRight 1 := by
    ext i hi
    interval_cases i <;> simp [BitVec.getElem_cons]
  exact congrArg (·, v.getLsbD 0) ((shiftRight_or_ofBool v _).trans hrot)

theorem rotBits_rl (v : Byte) (c : Bool) :
    rotBits .rl v c = (BitVec.ofNat 8 (2 * v.toNat + c.toNat), v.getLsbD 7) :=
  congrArg (·, v.getLsbD 7) ((shiftLeft_or_ofBool v c).trans (shiftConcat_eq_ofNat v c))

theorem rotBits_rr (v : Byte) (c : Bool) :
    rotBits .rr v c = (BitVec.ofNat 8 (v.toNat / 2 + 128 * c.toNat), v.getLsbD 0) :=
  congrArg (·, v.getLsbD 0) ((shiftRight_or_ofBool v c).trans (cons_extractLsb'_eq_ofNat v c))

theorem rotBits_sla (v : Byte) (c : Bool) : rotBits .sla v c = (BitVec.ofNat 8 (2 * v.toNat), v.getLsbD 7) := by
  refine congrArg (·, v.getLsbD 7) (BitVec.eq_of_toNat_eq ?_)
  rw [BitVec.toNat_shiftLeft, BitVec.toNat_ofNat, Nat.shiftLeft_eq, Nat.mul_comm]

theorem rotBits_sra (v : Byte) (c : Bool) : rotBits .sra v c = (BitVec.ofInt 8 (v.toInt / 2), v.getLsbD 0) := by
  have hsigned : v >>> 1 ||| v &&& 0x80 = v.sshiftRight 1 := by
    ext i hi
    interval_cases i <;> simp [BitVec.getElem_sshiftRight, BitVec.msb_eq_getLsbD_last]
  refine congrArg (·, v.getLsbD 0) (hsigned.trans ?_)
  rw [BitVec.sshiftRight_eq, Int.shiftRight_eq_div_pow]
  rfl

theorem rotBits_swap (v : Byte) (c : Bool) :
    rotBits .swap v c = (BitVec.ofNat 8 (v.toNat % 16 * 16 + v.toNat / 16), false) := by
  have hv := v.isLt
  refine congrArg (·, false) (BitVec.eq_of_toNat_eq ?_)
  have hlow : v.toNat >>> 4 < 2 ^ 4 := by rw [Nat.shiftRight_eq_div_pow]; omega
  have hhigh : (v.toNat % 16) <<< 4 % 2 ^ 8 = (v.toNat % 16) <<< 4 := by rw [Nat.shiftLeft_eq]; omega
  calc ((v &&& 0x0F) <<< 4 ||| v >>> 4).toNat
    _ = (v.toNat % 16) <<< 4 ||| v.toNat >>> 4 := by
      rw [BitVec.toNat_or, BitVec.toNat_shiftLeft, BitVec.toNat_ushiftRight, lowNibble_toNat, hhigh]
    _ = (v.toNat % 16) <<< 4 + v.toNat >>> 4 := (Nat.shiftLeft_add_eq_or_of_lt hlow _).symm
    _ = (v.toNat % 16 * 16 + v.toNat / 16) % 2 ^ 8 := by
      rw [Nat.shiftLeft_eq, Nat.shiftRight_eq_div_pow]; omega

theorem rotBits_srl (v : Byte) (c : Bool) : rotBits .srl v c = (BitVec.ofNat 8 (v.toNat / 2), v.getLsbD 0) := by
  refine congrArg (·, v.getLsbD 0) (BitVec.eq_of_toNat_eq ?_)
  have hv := v.isLt
  rw [BitVec.toNat_ushiftRight, BitVec.toNat_ofNat, Nat.shiftRight_eq_div_pow]
  omega

theorem rot8_f (op : RotOp) (v : Byte) (c : Bool) :
    (rot8 op v c).f = { z := decide ((rotBits op v c).1 = 0), n := false, h := false, c := (rotBits op v c).2 } := rfl

/-! ## Single bits -/

theorem bitFlags_eq (n : BitIndex) (v : Byte) (f : Flags) :
    bitFlags n v f = { z := decide (v.toNat / 2 ^ n.val % 2 = 0), n := false, h := true, c := f.c } := by
  refine congrArg (Flags.mk · false true f.c) ?_
  rw [← BitVec.testBit_toNat, Nat.testBit_eq_decide_div_mod_eq, ← decide_not]
  exact decide_eq_decide.2 (by omega)

theorem getLsbD_one_shiftLeft (n : BitIndex) (k : Nat) : (1#8 <<< n.val).getLsbD k = decide (k = n.val) := by
  rw [← BitVec.twoPow_eq, BitVec.getLsbD_twoPow, decide_eq_true n.isLt, Bool.true_and]
  exact decide_eq_decide.2 eq_comm

theorem resBit_bit (n : BitIndex) (v : Byte) (k : Nat) :
    (resBit n v).getLsbD k = (v.getLsbD k && decide (k ≠ n.val)) := by
  rw [resBit, BitVec.getLsbD_and, BitVec.getLsbD_not, getLsbD_one_shiftLeft, ← decide_not]
  by_cases hk : k < 8
  · rw [decide_eq_true hk, Bool.true_and]
  · rw [BitVec.getLsbD_of_ge v k (by omega), Bool.false_and, Bool.false_and]

theorem setBit_bit (n : BitIndex) (v : Byte) (k : Nat) :
    (setBit n v).getLsbD k = (v.getLsbD k || decide (k = n.val)) := by
  rw [setBit, BitVec.getLsbD_or, getLsbD_one_shiftLeft]

end Sys2Proof.Machine
end

section
/-! # Rotates, shifts and bit operations on the state (44_rotate_shift_bit.md R250 to R276)

The cost of a row of the CB map; that `rotBits` decides all of `RotatesBy`. The obligations are then assembled:
encoding, cost, result and flags, frame. -/

namespace Sys2Proof.Machine

/-! ## Costs of the CB map -/

/-- `HasCost` from the second byte behind `0xCB` (R143): the last hypothesis evaluates. -/
theorem hasCost_of_encode_cb {i : Instr} {n : Nat} {op2 : Byte} (he : encode i = [0xCB, op2])
    (hc : Instr.condition i = none) (h : cbCost op2.toNat = n) : HasCost i n := by
  have hrow : i.row = 256 + op2.toNat := by rw [Instr.row, he]; rfl
  refine hasCost_of_row ?_ hc ?_
  · rintro rfl
    exact List.cons_ne_nil _ _ (List.cons.inj he).2.symm
  · rw [hrow, defaultCost, if_neg (by omega), Nat.add_sub_cancel_left, h]

/-! ## The rotates of A -/

theorem opRotA_cpu_a (op : RotOp) (s : State) : (opRotA op s).cpu.a = (rotBits op s.cpu.a s.cpu.f.c).1 := rfl

theorem opRotA_cpu_f (op : RotOp) (s : State) :
    (opRotA op s).cpu.f = { z := false, n := false, h := false, c := (rotBits op s.cpu.a s.cpu.f.c).2 } := rfl

theorem regFrame_opRotA (op : RotOp) (s : State) : RegFrame [.a] s (opRotA op s) :=
  regFrame_setReg_setFlags s .a _ _

/-- Settles O27: each is the CB rotate of A with Z forced to 0; a byte moved down with the carry at its top is below
256. -/
theorem rotateA : Obligations.RotateA := by
  refine ⟨rfl, hasCost_of_encode rfl rfl rfl, rfl, hasCost_of_encode rfl rfl rfl, rfl, hasCost_of_encode rfl rfl rfl,
    rfl, hasCost_of_encode rfl rfl rfl, fun s =>
    ⟨⟨opRotA .rlc s, rfl, ?_, rfl, regFrame_opRotA .rlc s⟩, ⟨opRotA .rrc s, rfl, ?_, rfl, regFrame_opRotA .rrc s⟩,
      ⟨opRotA .rl s, rfl, ?_, rfl, regFrame_opRotA .rl s⟩, ⟨opRotA .rr s, rfl, ?_, rfl, regFrame_opRotA .rr s⟩⟩⟩
  · rw [opRotA_cpu_a, rotBits_rlc]
  · rw [opRotA_cpu_a, rotBits_rrc]
  · rw [opRotA_cpu_a, rotBits_rl]; exact BitVec.toNat_ofNat _ _
  · have ha := s.cpu.a.isLt
    have hc := s.cpu.f.c.toNat_lt
    rw [opRotA_cpu_a, rotBits_rr, BitVec.toNat_ofNat]
    omega

/-! ## The rotates and shifts of the CB space -/

theorem encode_rotR (op : RotOp) (r : Reg8) : encode (Instr.rotR op r) = [0xCB, xyz 0 op.code r.code] := by
  cases op <;> cases r <;> rfl

theorem hasCost_rotR (op : RotOp) (r : Reg8) : HasCost (Instr.rotR op r) 8 := by
  cases op <;> cases r <;> exact hasCost_of_encode_cb rfl rfl rfl

theorem encode_rotHl (op : RotOp) : encode (Instr.rotHl op) = [0xCB, xyz 0 op.code 6] := by cases op <;> rfl

theorem hasCost_rotHl (op : RotOp) : HasCost (Instr.rotHl op) 16 := by
  cases op <;> exact hasCost_of_encode_cb rfl rfl rfl

theorem opRot_reg (op : RotOp) (r : Reg8) (s : State) :
    (opRot op (.r r) s).reg r = (rotBits op (s.reg r) s.cpu.f.c).1 := by
  rw [opRot, State.reg_setFlags]
  exact State.reg_setReg_same s r _

/-- Beyond `rotBits` the eight operations do the same: one write to the register or at HL, then the flags. -/
theorem rotatesBy_rotBits (op : RotOp) : RotatesBy op (rotBits op) :=
  ⟨fun r => ⟨encode_rotR op r, hasCost_rotR op r, fun s => ⟨opRot op (.r r) s, exec_rotR op r s, opRot_reg op r s,
      rot8_f op (s.reg r) s.cpu.f.c, regFrame_setReg_setFlags s r _ _⟩⟩,
    encode_rotHl op, hasCost_rotHl op, fun s => ⟨opRot op .hlMem s, exec_rotHl op s, storesOne_busWrite s s.hl _ _,
      busWrite_setFlags_cpu s s.hl _ _⟩⟩

theorem rotatesBy_of_rotBits_eq {op : RotOp} {f : Byte → Bool → Byte × Bool} (h : ∀ v c, rotBits op v c = f v c) :
    RotatesBy op f :=
  (funext₂ h : rotBits op = f) ▸ rotatesBy_rotBits op

/-- Settles O28: `rotBits` of each of the four is the rotated byte and the bit shifted out. -/
theorem rotateCb : Obligations.RotateCb :=
  ⟨rotatesBy_of_rotBits_eq rotBits_rlc, rotatesBy_of_rotBits_eq rotBits_rrc, rotatesBy_of_rotBits_eq rotBits_rl,
    rotatesBy_of_rotBits_eq rotBits_rr⟩

/-- Settles O29: `rotBits` of each of the four is the shifted or swapped byte and the bit shifted out. -/
theorem shiftCb : Obligations.ShiftCb :=
  ⟨rotatesBy_of_rotBits_eq rotBits_sla, rotatesBy_of_rotBits_eq rotBits_sra, rotatesBy_of_rotBits_eq rotBits_swap,
    rotatesBy_of_rotBits_eq rotBits_srl⟩

/-! ## `BIT` -/

theorem encode_bitR (n : BitIndex) (r : Reg8) : encode (Instr.bitR n r) = [0xCB, xyz 1 n.val r.code] := by
  fin_cases n <;> cases r <;> rfl

theorem hasCost_bitR (n : BitIndex) (r : Reg8) : HasCost (Instr.bitR n r) 8 := by
  fin_cases n <;> cases r <;> exact hasCost_of_encode_cb rfl rfl rfl

theorem encode_bitHl (n : BitIndex) : encode (Instr.bitHl n) = [0xCB, xyz 1 n.val 6] := by fin_cases n <;> rfl

theorem hasCost_bitHl (n : BitIndex) : HasCost (Instr.bitHl n) 12 := by
  fin_cases n <;> exact hasCost_of_encode_cb rfl rfl rfl

/-- Settles O30: one write to the flags, whose Z tells whether the bit is 0. -/
theorem testBit : Obligations.TestBit := fun n =>
  ⟨fun r => ⟨encode_bitR n r, hasCost_bitR n r, fun s =>
      ⟨opBit n (.r r) s, exec_bitR n r s, bitFlags_eq n (s.reg r) s.cpu.f, regFrame_setFlags s _⟩⟩,
    encode_bitHl n, hasCost_bitHl n, fun s =>
      ⟨opBit n .hlMem s, exec_bitHl n s, bitFlags_eq n (s.busRead s.hl) s.cpu.f, regFrame_setFlags s _⟩⟩

/-! ## `RES` and `SET` -/

theorem encode_resR (n : BitIndex) (r : Reg8) : encode (Instr.resR n r) = [0xCB, xyz 2 n.val r.code] := by
  fin_cases n <;> cases r <;> rfl

theorem hasCost_resR (n : BitIndex) (r : Reg8) : HasCost (Instr.resR n r) 8 := by
  fin_cases n <;> cases r <;> exact hasCost_of_encode_cb rfl rfl rfl

theorem encode_setR (n : BitIndex) (r : Reg8) : encode (Instr.setR n r) = [0xCB, xyz 3 n.val r.code] := by
  fin_cases n <;> cases r <;> rfl

theorem hasCost_setR (n : BitIndex) (r : Reg8) : HasCost (Instr.setR n r) 8 := by
  fin_cases n <;> cases r <;> exact hasCost_of_encode_cb rfl rfl rfl

theorem encode_resHl (n : BitIndex) : encode (Instr.resHl n) = [0xCB, xyz 2 n.val 6] := by fin_cases n <;> rfl

theorem hasCost_resHl (n : BitIndex) : HasCost (Instr.resHl n) 16 := by
  fin_cases n <;> exact hasCost_of_encode_cb rfl rfl rfl

theorem encode_setHl (n : BitIndex) : encode (Instr.setHl n) = [0xCB, xyz 3 n.val 6] := by fin_cases n <;> rfl

theorem hasCost_setHl (n : BitIndex) : HasCost (Instr.setHl n) 16 := by
  fin_cases n <;> exact hasCost_of_encode_cb rfl rfl rfl

theorem opRes_reg (n : BitIndex) (r : Reg8) (s : State) : (opRes n (.r r) s).reg r = resBit n (s.reg r) :=
  State.reg_setReg_same s r _

theorem opSet_reg (n : BitIndex) (r : Reg8) (s : State) : (opSet n (.r r) s).reg r = setBit n (s.reg r) :=
  State.reg_setReg_same s r _

/-- Settles O31: one write to the register or at HL, of the byte with that bit cleared or set; a write of either kind
leaves the flags. -/
theorem resetAndSetBit : Obligations.ResetAndSetBit := by
  refine fun n =>
    ⟨fun r => ⟨encode_resR n r, hasCost_resR n r, encode_setR n r, hasCost_setR n r, fun s =>
        ⟨⟨opRes n (.r r) s, exec_resR n r s, fun k => ?_, s.setReg_cpu_f r _, regFrame_setReg s r _⟩,
          ⟨opSet n (.r r) s, exec_setR n r s, fun k => ?_, s.setReg_cpu_f r _, regFrame_setReg s r _⟩⟩⟩,
      encode_resHl n, hasCost_resHl n, encode_setHl n, hasCost_setHl n, fun s =>
        ⟨⟨resBit n (s.busRead s.hl), opRes n .hlMem s, exec_resHl n s, resBit_bit n _, storesOne_busWrite s s.hl _ _,
            s.busWrite_cpu s.hl _⟩,
          ⟨setBit n (s.busRead s.hl), opSet n .hlMem s, exec_setHl n s, setBit_bit n _, storesOne_busWrite s s.hl _ _,
            s.busWrite_cpu s.hl _⟩⟩⟩
  · rw [opRes_reg, resBit_bit]
  · rw [opSet_reg, setBit_bit]

end Sys2Proof.Machine
end

section
/-! # Control transfer (45_control.md R280 to R292)

The cost of a row with a condition, and what the shared operations of jumps, calls and returns do to the state. Each
obligation is then assembled from the encoding, the cost and the shared operation of its rows. -/

namespace Sys2Proof.Machine

/-! ## Costs of the rows with a condition -/

/-- `HasCosts` from the first byte, where it is not `0xCB`: the last hypothesis evaluates. -/
theorem hasCosts_of_encode {i : Instr} {cc : Cond} {n m : Nat} {op : Byte} {operands : List Byte}
    (he : encode i = op :: operands) (hc : Instr.condition i = some cc)
    (h : (op != 0xCB && defaultCost op.toNat true == n && defaultCost op.toNat false == m) = true) :
    HasCosts i cc n m := by
  simp only [Bool.and_eq_true, bne_iff_ne, beq_iff_eq] at h
  obtain ⟨⟨hop, htaken⟩, hnotTaken⟩ := h
  have hrow := Instr.row_of_encode he hop
  refine hasCosts_of_row ?_ hc (hrow ▸ htaken) (hrow ▸ hnotTaken)
  rintro rfl
  exact hop (List.cons.inj he).1.symm

/-! ## Jumps -/

/-- A conditional jump is one write to `PC`, which where the condition fails writes `PC` back. -/
theorem opIf_setPc (cc : Cond) (target : State → Word) (s : State) :
    opIf cc (fun t => t.setPc (target t)) s = s.setPc (if s.cpu.f.holds cc then target s else s.cpu.pc) := by
  unfold opIf
  split <;> rfl

theorem opIf_opJr (cc : Cond) (n : Byte) (s : State) :
    opIf cc (opJr n) s = s.setPc (if s.cpu.f.holds cc then s.cpu.pc + sext16 n else s.cpu.pc) :=
  opIf_setPc cc (fun t => relTarget t.cpu.pc n) s

theorem encode_jpCc (cc : Cond) (a : Word) :
    encode (Instr.jpCc cc a) = [xyz 3 cc.code 2, loByte a, hiByte a] := by cases cc <;> rfl

theorem hasCosts_jpCc (cc : Cond) (a : Word) : HasCosts (Instr.jpCc cc a) cc 16 12 := by
  cases cc <;> exact hasCosts_of_encode rfl rfl rfl

theorem encode_jrCc (cc : Cond) (n : Byte) : encode (Instr.jrCc cc n) = [xyz 0 (4 + cc.code) 0, n] := by
  cases cc <;> rfl

theorem hasCosts_jrCc (cc : Cond) (n : Byte) : HasCosts (Instr.jrCc cc n) cc 12 8 := by
  cases cc <;> exact hasCosts_of_encode rfl rfl rfl

/-- Settles O32: every form is one write to `PC`; the displacement of `JR` is its byte, sign-extended. -/
theorem jumps : Obligations.Jumps := by
  refine ⟨fun _ => ⟨rfl, rfl, rfl, rfl⟩,
    fun a => ⟨rfl, hasCost_of_encode rfl rfl rfl, fun _ => rfl⟩,
    fun cc a => ⟨encode_jpCc cc a, hasCosts_jpCc cc a, fun s => ?_⟩,
    ⟨rfl, hasCost_of_encode rfl rfl rfl, fun _ => rfl⟩, fun n => ?_⟩
  · rw [exec_jpCc, opIf_setPc cc (fun _ => a)]; rfl
  · rw [← sext16_eq]
    refine ⟨⟨rfl, hasCost_of_encode rfl rfl rfl, fun _ => rfl⟩,
      fun cc => ⟨encode_jrCc cc n, hasCosts_jrCc cc n, fun s => ?_⟩⟩
    rw [exec_jrCc, opIf_opJr]; rfl

/-! ## Calls -/

theorem pushes_opCall (a : Word) (s : State) : Pushes s.cpu.pc s (opCall a s) :=
  storesTwo_busWrite s _ _ _ _ _

theorem opCall_cpu (a : Word) (s : State) :
    (opCall a s).cpu = { s.cpu with sp := s.cpu.sp - 2, pc := a } := by
  rw [opCall, State.setPc, State.push16_cpu]

theorem encode_callCc (cc : Cond) (a : Word) :
    encode (Instr.callCc cc a) = [xyz 3 cc.code 4, loByte a, hiByte a] := by cases cc <;> rfl

theorem hasCosts_callCc (cc : Cond) (a : Word) : HasCosts (Instr.callCc cc a) cc 24 12 := by
  cases cc <;> exact hasCosts_of_encode rfl rfl rfl

theorem encode_rst (y : RstIndex) : encode (Instr.rst y) = [xyz 3 y.val 7] := by fin_cases y <;> rfl

theorem hasCost_rst (y : RstIndex) : HasCost (Instr.rst y) 16 := by
  fin_cases y <;> exact hasCost_of_encode rfl rfl rfl

/-- Settles O33: every form is `opCall`; that of `CALL cc` is under its condition, that of `RST` has the target `8 * y`. -/
theorem calls : Obligations.Calls := by
  refine ⟨fun a => ⟨rfl, hasCost_of_encode rfl rfl rfl, fun s =>
      ⟨opCall a s, rfl, pushes_opCall a s, opCall_cpu a s⟩⟩,
    fun cc a => ⟨encode_callCc cc a, hasCosts_callCc cc a, fun s =>
      ⟨opIf cc (opCall a) s, exec_callCc cc a s, fun htaken => ?_, fun hnotTaken => ?_⟩⟩,
    fun y => ⟨encode_rst y, hasCost_rst y, fun s =>
      ⟨opRst y s, exec_rst y s, pushes_opCall _ s, opCall_cpu _ s⟩⟩⟩
  · rw [opIf, if_pos htaken]
    exact ⟨pushes_opCall a s, opCall_cpu a s⟩
  · rw [opIf, hnotTaken]; rfl

/-! ## Returns -/

theorem opRet_eq (s : State) :
    opRet s = { s with cpu := { s.cpu with sp := s.cpu.sp + 2, pc := s.stackTop } } := rfl

theorem encode_retCc (cc : Cond) : encode (Instr.retCc cc) = [xyz 3 cc.code 0] := by cases cc <;> rfl

theorem hasCosts_retCc (cc : Cond) : HasCosts (Instr.retCc cc) cc 20 8 := by
  cases cc <;> exact hasCosts_of_encode rfl rfl rfl

/-- Settles O34: `RET` and `RETI` are a pop into `PC`, after which `RETI` sets `ime`; `RET cc` is `RET` under its
condition. -/
theorem returns : Obligations.Returns := by
  refine ⟨⟨rfl, hasCost_of_encode rfl rfl rfl, fun _ => rfl⟩,
    fun cc => ⟨encode_retCc cc, hasCosts_retCc cc, fun s => ?_⟩,
    ⟨rfl, hasCost_of_encode rfl rfl rfl, fun _ => rfl⟩⟩
  rw [exec_retCc, opIf, opRet_eq]

end Sys2Proof.Machine
end

section
/-! # The second byte of the CB map by its fields (30_encoding.md R132, R137, R143)

Every second byte is `x`, `y`, `z`, and these name an operation on one of the eight locations of R133. So a
fact about all 256 rows of the CB map is shown for the families of those operations: their encoding, that none is
conditional, and that the dispatch by fields (R306) does what the row does. -/

namespace Sys2Proof

theorem exists_xyz (b : Byte) : ∃ x y z, x < 4 ∧ y < 8 ∧ z < 8 ∧ xyz x y z = b := by
  have hb := b.isLt
  refine ⟨b.toNat / 64, b.toNat / 8 % 8, b.toNat % 8, by omega, by omega, by omega, BitVec.eq_of_toNat_eq ?_⟩
  rw [xyz, BitVec.toNat_ofNat]
  omega

theorem RotOp.exists_code {y : Nat} (hy : y < 8) : ∃ op : RotOp, op.code = y := by
  interval_cases y
  exacts [⟨.rlc, rfl⟩, ⟨.rrc, rfl⟩, ⟨.rl, rfl⟩, ⟨.rr, rfl⟩, ⟨.sla, rfl⟩, ⟨.sra, rfl⟩, ⟨.swap, rfl⟩, ⟨.srl, rfl⟩]

/-- A 3-bit field names a register, or is 6, for the byte at HL (R133, R134). -/
theorem Reg8.exists_code_or_eq_six {z : Nat} (hz : z < 8) : (∃ r : Reg8, r.code = z) ∨ z = 6 := by
  interval_cases z
  exacts [.inl ⟨.b, rfl⟩, .inl ⟨.c, rfl⟩, .inl ⟨.d, rfl⟩, .inl ⟨.e, rfl⟩, .inl ⟨.h, rfl⟩, .inl ⟨.l, rfl⟩, .inr rfl,
    .inl ⟨.a, rfl⟩]

/-! ## The rows of the CB map -/

theorem cbRow_rotR (op : RotOp) (r : Reg8) : cbRow (xyz 0 op.code r.code) = Instr.rotR op r := by
  cases op <;> cases r <;> rfl

theorem cbRow_rotHl (op : RotOp) : cbRow (xyz 0 op.code 6) = Instr.rotHl op := by cases op <;> rfl

theorem cbRow_bitR (n : BitIndex) (r : Reg8) : cbRow (xyz 1 n.val r.code) = Instr.bitR n r := by
  fin_cases n <;> cases r <;> rfl

theorem cbRow_bitHl (n : BitIndex) : cbRow (xyz 1 n.val 6) = Instr.bitHl n := by fin_cases n <;> rfl

theorem cbRow_resR (n : BitIndex) (r : Reg8) : cbRow (xyz 2 n.val r.code) = Instr.resR n r := by
  fin_cases n <;> cases r <;> rfl

theorem cbRow_resHl (n : BitIndex) : cbRow (xyz 2 n.val 6) = Instr.resHl n := by fin_cases n <;> rfl

theorem cbRow_setR (n : BitIndex) (r : Reg8) : cbRow (xyz 3 n.val r.code) = Instr.setR n r := by
  fin_cases n <;> cases r <;> rfl

theorem cbRow_setHl (n : BitIndex) : cbRow (xyz 3 n.val 6) = Instr.setHl n := by fin_cases n <;> rfl

/-- A relation between second byte and row holds of the whole CB map where it holds of its families. -/
theorem cbRow_byFamily {P : Byte → Instr → Prop}
    (rotR : ∀ op r, P (xyz 0 op.code r.code) (Instr.rotR op r)) (rotHl : ∀ op, P (xyz 0 op.code 6) (Instr.rotHl op))
    (bitR : ∀ n r, P (xyz 1 n.val r.code) (Instr.bitR n r)) (bitHl : ∀ n, P (xyz 1 n.val 6) (Instr.bitHl n))
    (resR : ∀ n r, P (xyz 2 n.val r.code) (Instr.resR n r)) (resHl : ∀ n, P (xyz 2 n.val 6) (Instr.resHl n))
    (setR : ∀ n r, P (xyz 3 n.val r.code) (Instr.setR n r)) (setHl : ∀ n, P (xyz 3 n.val 6) (Instr.setHl n))
    (op2 : Byte) : P op2 (cbRow op2) := by
  obtain ⟨x, y, z, hx, hy, hz, rfl⟩ := exists_xyz op2
  obtain ⟨op, hop⟩ := RotOp.exists_code hy
  obtain ⟨n, hn⟩ : ∃ n : BitIndex, n.val = y := ⟨⟨y, hy⟩, rfl⟩
  obtain ⟨r, rfl⟩ | rfl := Reg8.exists_code_or_eq_six hz <;> interval_cases x
  · rw [← hop, cbRow_rotR]; exact rotR op r
  · rw [← hn, cbRow_bitR]; exact bitR n r
  · rw [← hn, cbRow_resR]; exact resR n r
  · rw [← hn, cbRow_setR]; exact setR n r
  · rw [← hop, cbRow_rotHl]; exact rotHl op
  · rw [← hn, cbRow_bitHl]; exact bitHl n
  · rw [← hn, cbRow_resHl]; exact resHl n
  · rw [← hn, cbRow_setHl]; exact setHl n

namespace Machine

theorem encode_cbRow (op2 : Byte) : encode (cbRow op2) = [0xCB, op2] :=
  cbRow_byFamily (P := fun op2 i => encode i = [0xCB, op2]) encode_rotR encode_rotHl encode_bitR encode_bitHl
    encode_resR encode_resHl encode_setR encode_setHl op2

/-- No instruction of the CB map is conditional. -/
theorem condition_cbRow (op2 : Byte) : Instr.condition (cbRow op2) = none := by
  refine cbRow_byFamily (P := fun _ i => Instr.condition i = none) (fun op r => ?rotR) (fun op => ?rotHl)
    (fun n r => ?bitR) (fun n => ?bitHl) (fun n r => ?resR) (fun n => ?resHl) (fun n r => ?setR) (fun n => ?setHl) op2
  case rotR => cases op <;> cases r <;> rfl
  case rotHl => cases op <;> rfl
  case bitR | resR | setR => fin_cases n <;> cases r <;> rfl
  case bitHl | resHl | setHl => fin_cases n <;> rfl

/-- No instruction of the CB map is the bare prefix: `CB CB` is `SET 1,E` (R306). -/
theorem cbRow_ne_prefixCb (op2 : Byte) : cbRow op2 ≠ .prefixCb := by
  intro h
  have he := encode_cbRow op2
  rw [h] at he
  exact List.cons_ne_nil _ _ (List.cons.inj he).2.symm

theorem hasCost_cbRow (op2 : Byte) : HasCost (cbRow op2) (cbCost op2.toNat) :=
  hasCost_of_encode_cb (encode_cbRow op2) (condition_cbRow op2) rfl

/-! ## The dispatch by fields -/

theorem opCb_rotR (op : RotOp) (r : Reg8) (s : State) : opCb (xyz 0 op.code r.code) s = opRot op (.r r) s := by
  cases op <;> cases r <;> rfl

theorem opCb_rotHl (op : RotOp) (s : State) : opCb (xyz 0 op.code 6) s = opRot op .hlMem s := by cases op <;> rfl

theorem opCb_bitR (n : BitIndex) (r : Reg8) (s : State) : opCb (xyz 1 n.val r.code) s = opBit n (.r r) s := by
  fin_cases n <;> cases r <;> rfl

theorem opCb_bitHl (n : BitIndex) (s : State) : opCb (xyz 1 n.val 6) s = opBit n .hlMem s := by fin_cases n <;> rfl

theorem opCb_resR (n : BitIndex) (r : Reg8) (s : State) : opCb (xyz 2 n.val r.code) s = opRes n (.r r) s := by
  fin_cases n <;> cases r <;> rfl

theorem opCb_resHl (n : BitIndex) (s : State) : opCb (xyz 2 n.val 6) s = opRes n .hlMem s := by fin_cases n <;> rfl

theorem opCb_setR (n : BitIndex) (r : Reg8) (s : State) : opCb (xyz 3 n.val r.code) s = opSet n (.r r) s := by
  fin_cases n <;> cases r <;> rfl

theorem opCb_setHl (n : BitIndex) (s : State) : opCb (xyz 3 n.val 6) s = opSet n .hlMem s := by fin_cases n <;> rfl

/-- The dispatch by fields runs the row of the CB map (R306). -/
theorem exec_cbRow (op2 : Byte) (s : State) : exec (cbRow op2) s = .next (opCb op2 s) :=
  cbRow_byFamily (P := fun op2 i => exec i s = .next (opCb op2 s))
    (fun op r => by rw [exec_rotR, opCb_rotR]) (fun op => by rw [exec_rotHl, opCb_rotHl])
    (fun n r => by rw [exec_bitR, opCb_bitR]) (fun n => by rw [exec_bitHl, opCb_bitHl])
    (fun n r => by rw [exec_resR, opCb_resR]) (fun n => by rw [exec_resHl, opCb_resHl])
    (fun n r => by rw [exec_setR, opCb_setR]) (fun n => by rw [exec_setHl, opCb_setHl]) op2

end Machine

end Sys2Proof
end

section
/-! # The prefix `CB`, `NOP` and `DI` (46_system.md R300, R302, R306)

Decoding, cost and meaning of the prefix, each from the row of the CB map that its second byte selects. -/

namespace Sys2Proof.Machine

theorem decode_cb (op2 : Byte) (rest : List Byte) : decode (0xCB :: op2 :: rest) = .ok (cbRow op2, rest) := rfl

/-- The prefix reads the second byte at `PC`, passes it, and runs the row of that byte. -/
theorem exec_prefixCb (s : State) : exec .prefixCb s = exec (cbRow (s.busRead s.cpu.pc)) (s.setPc (s.cpu.pc + 1)) :=
  (exec_cbRow (s.busRead s.cpu.pc) (s.setPc (s.cpu.pc + 1))).symm

/-- The prefix has no cost of its own, whatever the parameter Cost says (R7, R306). -/
theorem costOf_prefixCb (s : State) : costOf .prefixCb s = costOf (cbRow (s.busRead s.cpu.pc)) s := by
  rw [costOf_of_ne (cbRow_ne_prefixCb _), Instr.taken, condition_cbRow]
  rfl

/-- Settles O40: the prefix is the dispatch by fields of its second byte, and that is the row of the CB map. -/
theorem prefixDispatch : Obligations.PrefixDispatch :=
  ⟨fun op2 rest => ⟨decode_cb op2 rest, hasCost_cbRow op2⟩,
    fun s => ⟨exec_prefixCb s, costOf_prefixCb s, opCbDispatch s, rfl⟩⟩

/-- Settles O37: `NOP` answers the state it was given; `DI` is one write to `ime`. -/
theorem nopAndDi : Obligations.NopAndDi :=
  ⟨rfl, hasCost_of_encode rfl rfl rfl, rfl, hasCost_of_encode rfl rfl rfl, fun _ => ⟨rfl, rfl⟩⟩

end Sys2Proof.Machine
end

section
/-! # Interrupt requests and the joypad (60_exceptions.md R313, R314, R372)

Which bits of IF a request sets, and the test for a new press as a statement about the eight keys. -/

namespace Sys2Proof.Machine

theorem Irq.bit_lt (i : Irq) : i.bit < 5 := by cases i <;> decide

@[simp] theorem Irq.mask_getLsbD (i : Irq) (k : Nat) : i.mask.getLsbD k = decide (k = i.bit) := by
  show (BitVec.twoPow 5 i.bit).getLsbD k = decide (k = i.bit)
  simp [BitVec.getLsbD_twoPow, i.bit_lt, eq_comm]

/-- The eight keys of a snapshot (R55). -/
def Keys.toList (q : Keys) : List Bool := [q.up, q.down, q.left, q.right, q.a, q.b, q.start, q.select]

theorem Keys.newPress_eq_decide (old new : Keys) :
    Keys.newPress old new = decide (∃ j : Fin 8, new.toList[j] = true ∧ old.toList[j] = false) := by
  rw [Bool.eq_iff_iff, decide_eq_true_iff]
  simp [Keys.newPress, Keys.toList, Fin.exists_fin_succ, or_assoc]

theorem joypadApply_joypad (new : Keys) (s : State) :
    (joypadApply new s).joypad = { s.joypad with cur := new, prev := s.joypad.cur } := by
  unfold joypadApply
  split <;> rfl

/-- The request of R372: made on a new press, and on nothing else. -/
theorem joypadApply_getLsbD (new : Keys) (s : State) (n : Nat) :
    (joypadApply new s).iflag.getLsbD n =
      (s.iflag.getLsbD n || (decide (n = Irq.joypad.bit) && Keys.newPress s.joypad.cur new)) := by
  unfold joypadApply
  cases Keys.newPress s.joypad.cur new <;> simp

theorem joypadApply_frame (new : Keys) (s : State) :
    joypadApply new s = { s with joypad := (joypadApply new s).joypad, iflag := (joypadApply new s).iflag } := by
  unfold joypadApply
  split <;> rfl

/-- Settles O60: the request, with the test for a new press read as a search among the eight keys. -/
theorem joypadSnapshot : Obligations.JoypadSnapshot := by
  refine fun k s => ⟨joypadApply_joypad k s, fun n => ?_, joypadApply_frame k s⟩
  rw [joypadApply_getLsbD, Keys.newPress_eq_decide]
  rfl

end Sys2Proof.Machine
end

section
/-! # The timer in closed form (60_exceptions.md R330 to R334)

A run of increments of TIMA is cut at its overflows: up to the first it counts up, at the first the counter is
reloaded, and from then on every `256 - TMA` increments lead back to the same state. -/

namespace Sys2Proof.Machine

/-! ## Increments of TIMA -/

/-- `TIMA <- v`, as the timer itself sets it. -/
def State.setTima (s : State) (v : Byte) : State := { s with timer := { s.timer with tima := v } }

theorem State.timaIncrement_of_ne {s : State} (h : s.timer.tima ≠ 0xFF) :
    s.timaIncrement = s.setTima (s.timer.tima + 1) := if_neg h

theorem State.timaIncrements_add (m n : Nat) (s : State) :
    State.timaIncrements (m + n) s = State.timaIncrements n (State.timaIncrements m s) := by
  induction m generalizing s with
  | zero => rw [Nat.zero_add]; rfl
  | succ m ih => rw [Nat.succ_add]; exact ih s.timaIncrement

/-- Short of an overflow the increments add up. -/
theorem State.timaIncrements_of_lt {n : Nat} {s : State} (h : s.timer.tima.toNat + n < 256) :
    State.timaIncrements n s = s.setTima (s.timer.tima + BitVec.ofNat 8 n) := by
  induction n generalizing s with
  | zero => simp [State.timaIncrements, State.setTima]
  | succ n ih =>
    have hne : s.timer.tima ≠ 0xFF := by
      intro h255
      rw [h255] at h
      simp at h
      omega
    have hnext : (s.timer.tima + 1).toNat + n < 256 := by bv_omega
    calc State.timaIncrements n s.timaIncrement
      _ = State.timaIncrements n (s.setTima (s.timer.tima + 1)) := by rw [State.timaIncrement_of_ne hne]
      _ = s.setTima (s.timer.tima + 1 + BitVec.ofNat 8 n) := ih hnext
      _ = s.setTima (s.timer.tima + BitVec.ofNat 8 (n + 1)) := by
        congr 1
        bv_omega

/-- The first overflow comes after `256 - TIMA` increments. -/
theorem State.timaIncrements_to_overflow (s : State) :
    State.timaIncrements (256 - s.timer.tima.toNat) s = s.timaOverflow := by
  have hlt := s.timer.tima.isLt
  have hlast : s.timer.tima + BitVec.ofNat 8 (255 - s.timer.tima.toNat) = 0xFF := by bv_omega
  rw [show 256 - s.timer.tima.toNat = 255 - s.timer.tima.toNat + 1 by omega, State.timaIncrements_add,
    State.timaIncrements_of_lt (n := 255 - s.timer.tima.toNat) (by omega), hlast]
  rfl

/-- A second overflow finds TMA in TIMA, the request made and the CPU awake: it changes nothing more. -/
theorem State.timaOverflow_idem (s : State) : s.timaOverflow.timaOverflow = s.timaOverflow := by
  simp [State.timaOverflow, State.requestIrq, State.setHalt, BitVec.or_assoc]

/-- After an overflow TIMA runs through the values from TMA to 0xFF, again and again. -/
theorem State.timaIncrements_timaOverflow (n : Nat) (s : State) :
    State.timaIncrements n s.timaOverflow =
      s.timaOverflow.setTima (s.timer.tma + BitVec.ofNat 8 (n % (256 - s.timer.tma.toNat))) := by
  have hlt := s.timer.tma.isLt
  have htima : s.timaOverflow.timer.tima = s.timer.tma := rfl
  induction n using Nat.strong_induction_on with
  | _ n ih =>
    rcases Nat.lt_or_ge n (256 - s.timer.tma.toNat) with h | h
    · rw [State.timaIncrements_of_lt (by rw [htima]; omega), Nat.mod_eq_of_lt h, htima]
    · rw [Nat.mod_eq_sub_mod h, ← ih _ (by omega)]
      conv_lhs => rw [← Nat.add_sub_cancel' h, State.timaIncrements_add]
      rw [← htima, State.timaIncrements_to_overflow, State.timaOverflow_idem]

/-- At or past an overflow: the state after one overflow, with the rest of the increments counted from TMA. -/
theorem State.timaIncrements_of_ge {n : Nat} {s : State} (h : 256 - s.timer.tima.toNat ≤ n) :
    State.timaIncrements n s = s.timaOverflow.setTima
      (s.timer.tma + BitVec.ofNat 8 ((n - (256 - s.timer.tima.toNat)) % (256 - s.timer.tma.toNat))) := by
  rw [← State.timaIncrements_timaOverflow, ← State.timaIncrements_to_overflow, ← State.timaIncrements_add,
    Nat.add_sub_cancel' h]

/-! ## The advance of the timer -/

theorem timerPeriod_eq (tac : BitVec 3) :
    timerPeriod tac = match tac.toNat % 4 with
      | 0 => 1024
      | 1 => 16
      | 2 => 64
      | _ => 256 := by
  revert tac
  decide

theorem tac_bit_two (tac : BitVec 3) : tac.getLsbD 2 = decide (tac.toNat ≥ 4) := by
  revert tac
  decide

/-- What both branches of `TimerAdvance` do: the divider counts by 256, and `Timer` becomes `acc` (R331). -/
def State.countCycles (d acc : Nat) (s : State) : State :=
  { s with timer := { s.timer with
      divTimer := (s.timer.divTimer + d) % 256
      div := s.timer.div + BitVec.ofNat 8 ((s.timer.divTimer + d) / 256)
      timer := acc } }

theorem State.timerAdvance_off {s : State} (h : ¬ s.timer.tac.toNat ≥ 4) (d : Nat) :
    State.timerAdvance d s = s.countCycles d (s.timer.timer + d) := by
  refine if_neg ?_
  show ¬ s.timer.tac.getLsbD 2 = true
  rwa [tac_bit_two, decide_eq_true_iff]

theorem State.timerAdvance_on {s : State} (h : s.timer.tac.toNat ≥ 4) (d : Nat) :
    State.timerAdvance d s = State.timaIncrements ((s.timer.timer + d) / timerPeriod s.timer.tac)
      (s.countCycles d ((s.timer.timer + d) % timerPeriod s.timer.tac)) := by
  refine if_pos ?_
  show s.timer.tac.getLsbD 2 = true
  rwa [tac_bit_two, decide_eq_true_iff]

theorem State.timerAdvance_counts {s : State} {d : Nat} (hon : s.timer.tac.toNat ≥ 4)
    (h : (s.timer.timer + d) / timerPeriod s.timer.tac < 256 - s.timer.tima.toNat) :
    State.timerAdvance d s = (s.countCycles d ((s.timer.timer + d) % timerPeriod s.timer.tac)).setTima
      (s.timer.tima + BitVec.ofNat 8 ((s.timer.timer + d) / timerPeriod s.timer.tac)) := by
  rw [State.timerAdvance_on hon]
  exact State.timaIncrements_of_lt (Nat.add_lt_of_lt_sub' h)

theorem State.timerAdvance_overflows {s : State} {d : Nat} (hon : s.timer.tac.toNat ≥ 4)
    (h : 256 - s.timer.tima.toNat ≤ (s.timer.timer + d) / timerPeriod s.timer.tac) :
    State.timerAdvance d s = (s.countCycles d ((s.timer.timer + d) % timerPeriod s.timer.tac)).timaOverflow.setTima
      (s.timer.tma + BitVec.ofNat 8
        (((s.timer.timer + d) / timerPeriod s.timer.tac - (256 - s.timer.tima.toNat)) % (256 - s.timer.tma.toNat))) := by
  rw [State.timerAdvance_on hon]
  exact State.timaIncrements_of_ge h

/-- A byte and an addend that stay below 256 together add up as numbers. -/
theorem toNat_add_ofNat_of_lt {v : Byte} {n : Nat} (h : v.toNat + n < 256) :
    (v + BitVec.ofNat 8 n).toNat = v.toNat + n := by
  bv_omega

/-- Settles O51: TAC off, on without an overflow, and on with one. -/
theorem timerClosedForm : Obligations.TimerClosedForm := by
  intro s d t p n toOverflow overflows
  have hp : p = timerPeriod s.timer.tac := (timerPeriod_eq _).symm
  clear_value p
  subst hp
  have htma := s.timer.tma.isLt
  have hdiv := BitVec.toNat_add s.timer.div (BitVec.ofNat 8 ((s.timer.divTimer + d) / 256))
  rw [BitVec.toNat_ofNat, Nat.add_mod_mod] at hdiv
  by_cases hov : overflows
  case pos =>
    have ⟨hon, hn⟩ := hov
    have ht : t = _ := State.timerAdvance_overflows hon hn
    clear_value t
    subst ht
    refine ⟨rfl, hdiv, (if_pos hon).symm, ?_, fun k => ?_, ?_, rfl⟩
    · rw [if_pos hov]
      exact toNat_add_ofNat_of_lt (Nat.lt_sub_iff_add_lt'.1 (Nat.mod_lt _ (by omega)))
    · show (s.iflag ||| Irq.timer.mask).getLsbD k = _
      rw [BitVec.getLsbD_or, Irq.mask_getLsbD, decide_eq_true hov, Bool.and_true]
      rfl
    · rw [decide_eq_true hov, Bool.not_true, Bool.and_false]
      rfl
  case neg =>
    have hflag : ∀ k, s.iflag.getLsbD k = (s.iflag.getLsbD k || (decide (k = 2) && decide overflows)) := fun k => by
      rw [decide_eq_false hov, Bool.and_false, Bool.or_false]
    have hcpu : s.cpu = { s.cpu with halt := s.cpu.halt && !decide overflows } := by
      rw [decide_eq_false hov, Bool.not_false, Bool.and_true]
    by_cases hon : s.timer.tac.toNat ≥ 4
    case pos =>
      have hn : n < toOverflow := Nat.lt_of_not_le fun h => hov ⟨hon, h⟩
      have ht : t = _ := State.timerAdvance_counts hon hn
      clear_value t
      subst ht
      refine ⟨rfl, hdiv, (if_pos hon).symm, ?_, hflag, hcpu, rfl⟩
      rw [if_neg hov, if_pos hon]
      exact toNat_add_ofNat_of_lt (by omega)
    case neg =>
      have ht : t = _ := State.timerAdvance_off hon d
      clear_value t
      subst ht
      refine ⟨rfl, hdiv, (if_neg hon).symm, ?_, hflag, hcpu, rfl⟩
      rw [if_neg hov, if_neg hon]
      rfl

end Sys2Proof.Machine
end

section
/-! # Taking an interrupt (60_exceptions.md R312, R314, R315)

Which source a step services, what servicing it makes of the machine, and that the timer and the wake check after it
reach no register of an awake CPU. -/

namespace Sys2Proof.Machine

/-- The source of the lowest set bit is the one before which no bit is set (R315). -/
theorem lowestIrq_eq_some {p : BitVec 5} {i : Irq} (hset : p.getLsbD i.bit = true)
    (hclear : ∀ k, k < i.bit → p.getLsbD k = false) : lowestIrq p = some i := by
  have hbefore : ∀ j : Irq, j.bit < i.bit → p.getLsbD j.bit = false := fun j h => hclear j.bit h
  have hv := hbefore .vblank
  have hs := hbefore .stat
  have ht := hbefore .timer
  have hr := hbefore .serial
  cases i <;> simp_all [lowestIrq, Irq.bit]

theorem State.serviceable_eq_some {s : State} {i : Irq} (hime : s.cpu.ime = true)
    (hset : (s.ie &&& s.iflag).getLsbD i.bit = true) (hclear : ∀ k, k < i.bit → (s.ie &&& s.iflag).getLsbD k = false) :
    s.serviceable = some i := by
  rw [State.serviceable, if_pos hime]
  exact lowestIrq_eq_some hset hclear

theorem Irq.vector_eq (i : Irq) : i.vector = BitVec.ofNat 16 (0x40 + 8 * i.bit) := by cases i <;> rfl

/-- Where the CPU stands after an interrupt was taken (R315). -/
def Cpu.atVector (c : Cpu) (i : Irq) : Cpu :=
  { c with ime := false, halt := false, sp := c.sp - 2, pc := BitVec.ofNat 16 (0x40 + 8 * i.bit) }

/-- The state in which the push of R315 is made: the bit of the source is cleared in IF. -/
def State.dropRequest (s : State) (i : Irq) : State := { s with iflag := s.iflag &&& ~~~(BitVec.twoPow 5 i.bit) }

/-- A push sees of the CPU the stack pointer alone. -/
theorem State.push16_setCpu (s : State) {c : Cpu} (h : c.sp = s.cpu.sp) (v : Word) :
    ({ s with cpu := c } : State).push16 v = { s.push16 v with cpu := { c with sp := c.sp - 2 } } := by
  simp only [State.push16_eq, State.busWrite_setCpu, h]

theorem State.serviceInterrupt_eq (s : State) (i : Irq) :
    s.serviceInterrupt i = { (s.dropRequest i).push16 s.cpu.pc with cpu := s.cpu.atVector i } := by
  have hpush := State.push16_setCpu (s.dropRequest i) (c := { s.cpu with ime := false, halt := false }) rfl s.cpu.pc
  calc s.serviceInterrupt i
    _ = (({ s.dropRequest i with cpu := { s.cpu with ime := false, halt := false } } : State).push16 s.cpu.pc).setPc
          i.vector := rfl
    _ = _ := by
      rw [hpush, Irq.vector_eq]
      rfl

theorem pushes_serviceInterrupt (s : State) (i : Irq) :
    Pushes s.cpu.pc (s.dropRequest i) (s.serviceInterrupt i) := by
  rw [State.serviceInterrupt_eq, State.push16_eq]
  exact storesTwo_busWrite _ _ _ _ _ _

/-! ## After the service -/

/-- What the timer and the wake check may change of a CPU that is awake: the timer and its own request. -/
structure TimerOnly (u t : State) : Prop where
  frame : t = { u with timer := t.timer, iflag := t.iflag }
  otherRequests : ∀ k, k ≠ 2 → t.iflag.getLsbD k = u.iflag.getLsbD k

theorem timerOnly_timerAdvance {u : State} (h : u.cpu.halt = false) (d : Nat) :
    TimerOnly u (State.timerAdvance d u) := by
  obtain ⟨-, -, -, -, hflag, hcpu, hframe⟩ := timerClosedForm u d
  rw [h, Bool.false_and, ← h] at hcpu
  generalize State.timerAdvance d u = t at *
  have htimer : t.timer = { t.timer with tma := u.timer.tma, tac := u.timer.tac } := congrArg State.timer hframe
  constructor
  · exact hframe.trans (by rw [← htimer, hcpu])
  · intro k hk
    rw [hflag, decide_eq_false hk, Bool.false_and, Bool.or_false]

theorem State.wakeCheck_of_awake {s : State} (h : s.cpu.halt = false) : s.wakeCheck = s := by
  unfold State.wakeCheck
  split
  · rfl
  · rw [State.setHalt, ← h]

theorem State.cpuStep_of_serviceable {s : State} {i : Irq} (h : s.serviceable = some i) :
    ∃ t, s.cpuStep = .next (t, 20) ∧ TimerOnly (s.serviceInterrupt i) t := by
  have hawake : (s.serviceInterrupt i).cpu.halt = false := by
    rw [State.serviceInterrupt_eq]
    rfl
  have htimer := timerOnly_timerAdvance hawake 20
  simp only [State.cpuStep, h]
  refine ⟨_, rfl, ?_⟩
  split
  · rw [State.wakeCheck_of_awake]
    · exact htimer
    · rw [htimer.frame]
      exact hawake
  · rw [State.wakeCheck_of_awake hawake]
    exact ⟨rfl, fun _ _ => rfl⟩

/-- Settles O49: the source that is serviced, the state of service, and the step's end. -/
theorem takeInterrupt : Obligations.TakeInterrupt := by
  intro s i hime hset hclear s1
  obtain ⟨t, hstep, hframe, hother⟩ := State.cpuStep_of_serviceable (State.serviceable_eq_some hime hset hclear)
  refine ⟨s.serviceInterrupt i, t, pushes_serviceInterrupt s i, ?_, hstep, hframe, hother⟩
  rw [State.serviceInterrupt_eq]
  rfl

end Sys2Proof.Machine
end

section
/-! # A pixel of the rasteriser (60_exceptions.md R353 to R364)

Both passes are folds of steps that each draw at one place of the row. So the two values kept for a place, its
framebuffer entry and its priority slot, are those that the one step of the background pass leaves and then, sprite
after sprite, the one step of the sprite pass that lands there. -/

namespace Sys2Proof.Machine

/-! ## What drawing on a row keeps -/

/-- `q` is `p` after drawing on a row: no field but the framebuffer and the priority buffer changes, no other row does,
and the framebuffer stays canonical. -/
structure Ppu.OnRow (row : Nat) (p q : Ppu) : Prop where
  frame : q = { p with fb := q.fb, pri := q.pri }
  wf : Memory.wf p.fb = true → Memory.wf q.fb = true
  otherRows : ∀ k, k < row * 160 ∨ row * 160 + 160 ≤ k → Memory.read q.fb k = Memory.read p.fb k

theorem Ppu.OnRow.refl (row : Nat) (p : Ppu) : Ppu.OnRow row p p := ⟨rfl, id, fun _ _ => rfl⟩

theorem Ppu.OnRow.trans {row : Nat} {p q r : Ppu} (hpq : Ppu.OnRow row p q) (hqr : Ppu.OnRow row q r) :
    Ppu.OnRow row p r where
  frame := by
    rw [hqr.frame, hpq.frame]
  wf h := hqr.wf (hpq.wf h)
  otherRows k hk := (hqr.otherRows k hk).trans (hpq.otherRows k hk)

theorem Ppu.onRow_foldl {α : Type} {row : Nat} {f : Ppu → α → Ppu} {l : List α}
    (hstep : ∀ q, ∀ a ∈ l, Ppu.OnRow row q (f q a)) (p : Ppu) : Ppu.OnRow row p (l.foldl f p) := by
  induction l generalizing p with
  | nil => exact Ppu.OnRow.refl row p
  | cons a l ih =>
    exact (hstep p a List.mem_cons_self).trans (ih (fun q b hb => hstep q b (List.mem_cons_of_mem a hb)) (f p a))

/-- What the passes read is not what they draw on: the row's sprites stay the same ones. -/
theorem Ppu.OnRow.selected {row : Nat} {p q : Ppu} (h : Ppu.OnRow row p q) : q.selected = p.selected := by
  rw [h.frame]
  rfl

/-! ## One place of a row -/

/-- What is kept for place `x` of a row: its entry of the framebuffer and its priority slot. -/
def Ppu.pixel (row x : Nat) (p : Ppu) : Byte × PriSlot := (Memory.read p.fb (row * 160 + x), p.slot x)

/-- Write both values of place `x` of a row. -/
def Ppu.plot (p : Ppu) (row x : Nat) (d : Byte × PriSlot) : Ppu := (p.setFb row x d.1).setSlot x d.2

theorem Ppu.onRow_plot (p : Ppu) (row : Nat) {x : Nat} (hx : x < 160) (d : Byte × PriSlot) :
    Ppu.OnRow row p (p.plot row x d) :=
  ⟨rfl, fun h => Memory.write_wf h _ d.1, fun k hk => Memory.read_write_other p.fb d.1 (by omega)⟩

theorem Ppu.pixel_plot_other (p : Ppu) (row : Nat) {x y : Nat} (h : x ≠ y) (d : Byte × PriSlot) :
    (p.plot row y d).pixel row x = p.pixel row x := by
  have hfb : Memory.read (p.plot row y d).fb (row * 160 + x) = Memory.read p.fb (row * 160 + x) :=
    Memory.read_write_other p.fb d.1 (by omega)
  have hslot : (p.plot row y d).slot x = p.slot x := by simp [Ppu.slot, Ppu.plot, h.symm]
  rw [Ppu.pixel, hfb, hslot, Ppu.pixel]

theorem Ppu.pixel_plot_same {p : Ppu} (hwf : Memory.wf p.fb = true) (row : Nat) {x : Nat} (hx : x < 160)
    (d : Byte × PriSlot) : (p.plot row x d).pixel row x = d := by
  have hfb : Memory.read (p.plot row x d).fb (row * 160 + x) = d.1 := Memory.read_write_same hwf _ d.1
  have hslot : (p.plot row x d).slot x = d.2 := by simp [Ppu.slot, Ppu.plot, hx]
  rw [Ppu.pixel, hfb, hslot]

theorem Ppu.setSlot_slot (p : Ppu) (x : Nat) : p.setSlot x (p.slot x) = p := by
  have hpri : p.pri.setIfInBounds x (p.slot x) = p.pri := by
    refine Vector.ext fun i hi => ?_
    by_cases h : x = i
    · simp [h, Ppu.slot, hi]
    · simp [h]
  rw [Ppu.setSlot, hpri]

theorem Ppu.pixel_foldl_unchanged {α : Type} {row x : Nat} {f : Ppu → α → Ppu} {l : List α}
    (hstep : ∀ q, ∀ a ∈ l, (f q a).pixel row x = q.pixel row x) (p : Ppu) :
    (l.foldl f p).pixel row x = p.pixel row x := by
  induction l generalizing p with
  | nil => rfl
  | cons a l ih =>
    rw [List.foldl_cons, ih (fun q b hb => hstep q b (List.mem_cons_of_mem a hb)), hstep p a List.mem_cons_self]

/-- A fold over places of which one alone draws at `x`: what it leaves there is what that one step leaves, run in a
state that differs from the first in other places only. -/
theorem Ppu.pixel_foldl_range {row x n i : Nat} {f : Ppu → Nat → Ppu} (hi : i < n)
    (hstep : ∀ q a, a < n → Ppu.OnRow row q (f q a))
    (hother : ∀ q a, a < n → a ≠ i → (f q a).pixel row x = q.pixel row x) (p : Ppu) :
    ∃ q, Ppu.OnRow row p q ∧ q.pixel row x = p.pixel row x ∧
      ((List.range n).foldl f p).pixel row x = (f q i).pixel row x := by
  obtain ⟨before, after, hsplit⟩ := List.append_of_mem (List.mem_range.2 hi)
  have hnodup : (before ++ i :: after).Nodup := hsplit ▸ List.nodup_range
  obtain ⟨hfresh, -⟩ := List.nodup_cons.1 (List.nodup_middle.1 hnodup)
  have hlt : ∀ a ∈ before ++ after, a < n := fun a ha => by
    rw [← List.mem_range, hsplit]
    exact List.mem_append.2 ((List.mem_append.1 ha).imp_right (List.mem_cons_of_mem i))
  have hkeeps : ∀ q, ∀ a ∈ before ++ after, (f q a).pixel row x = q.pixel row x := fun q a ha =>
    hother q a (hlt a ha) fun h => hfresh (h ▸ ha)
  refine ⟨before.foldl f p, Ppu.onRow_foldl (fun q a ha => hstep q a (hlt a (List.mem_append_left _ ha))) p,
    Ppu.pixel_foldl_unchanged (fun q a ha => hkeeps q a (List.mem_append_left _ ha)) p, ?_⟩
  rw [hsplit, List.foldl_append, List.foldl_cons]
  exact Ppu.pixel_foldl_unchanged (fun q a ha => hkeeps q a (List.mem_append_right _ ha)) _

/-! ## The background pass -/

/-- What the background leaves at place `x`, where the slot is `slot` (R356, R357). -/
def Ppu.bgDrawn (p : Ppu) (row x : Nat) (slot : PriSlot) : Byte × PriSlot :=
  (pal p.bgp (p.bgColour row x), if p.bgColour row x = 0 then slot else .background)

theorem Ppu.OnRow.bgDrawn {row : Nat} {p q : Ppu} (h : Ppu.OnRow row p q) : q.bgDrawn = p.bgDrawn := by
  rw [h.frame]
  rfl

theorem Ppu.bgDrawn_beq_background (p : Ppu) (row x : Nat) :
    ((p.bgDrawn row x .undrawn).2 == .background) = decide (p.bgColour row x ≠ 0) := by
  by_cases h : p.bgColour row x = 0 <;> simp [Ppu.bgDrawn, h]

theorem Ppu.bgPixel_eq_plot (row : Nat) (q : Ppu) (x : Nat) :
    Ppu.bgPixel row q x = q.plot row x (q.bgDrawn row x (q.slot x)) := by
  by_cases h : q.bgColour row x = 0
  · simp only [Ppu.bgPixel, Ppu.bgDrawn, Ppu.plot, if_pos h]
    exact ((q.setFb row x (pal q.bgp (q.bgColour row x))).setSlot_slot x).symm
  · simp only [Ppu.bgPixel, Ppu.bgDrawn, Ppu.plot, if_neg h]

theorem Ppu.onRow_bgPixel (row : Nat) (q : Ppu) {x : Nat} (hx : x < 160) : Ppu.OnRow row q (Ppu.bgPixel row q x) := by
  rw [Ppu.bgPixel_eq_plot]
  exact q.onRow_plot row hx _

theorem Ppu.onRow_bgPass (row : Nat) (p : Ppu) : Ppu.OnRow row p (Ppu.bgPass row p) :=
  Ppu.onRow_foldl (fun q _ hx => q.onRow_bgPixel row (List.mem_range.1 hx)) p

theorem Ppu.pixel_bgPass {row x : Nat} {p : Ppu} (hwf : Memory.wf p.fb = true) (hx : x < 160) :
    (Ppu.bgPass row p).pixel row x = p.bgDrawn row x (p.slot x) := by
  obtain ⟨q, hq, hpixel, hpass⟩ := Ppu.pixel_foldl_range (row := row) (x := x) (f := Ppu.bgPixel row) hx
    (fun q a ha => q.onRow_bgPixel row ha)
    (fun q a _ hne => by rw [Ppu.bgPixel_eq_plot, q.pixel_plot_other row hne.symm]) p
  have hslot : q.slot x = p.slot x := congrArg Prod.snd hpixel
  rw [Ppu.bgPass, hpass, Ppu.bgPixel_eq_plot, Ppu.pixel_plot_same (hq.wf hwf) row hx, hslot, hq.bgDrawn]

/-! ## The sprite pass -/

/-- The colour index a sprite has at place `x` of a row, 0 where it does not reach (R362, R363). -/
def Ppu.look (p : Ppu) (row x : Nat) (o : Sprite) : Nat :=
  if o.x.toNat ≤ x + 8 ∧ x + 8 - o.x.toNat < 8 then p.spriteColour row o (x + 8 - o.x.toNat) else 0

/-- Sprite `o` draws at place `x` where the slot is `slot` and no sprite has drawn before (R363). -/
def Ppu.shows (p : Ppu) (row x : Nat) (slot : PriSlot) (o : Sprite) : Bool :=
  decide (p.look row x o ≠ 0) && !(o.flags.getLsbD 7 && slot == .background)

/-- What a sprite that draws leaves (R363). -/
def Ppu.spriteDrawn (p : Ppu) (row x : Nat) (o : Sprite) : Byte × PriSlot :=
  (pal (if o.flags.getLsbD 4 then p.obp1 else p.obp0) (p.look row x o), .sprite)

theorem Ppu.OnRow.shows {row : Nat} {p q : Ppu} (h : Ppu.OnRow row p q) : q.shows = p.shows := by
  rw [h.frame]
  rfl

theorem Ppu.OnRow.spriteDrawn {row : Nat} {p q : Ppu} (h : Ppu.OnRow row p q) : q.spriteDrawn = p.spriteDrawn := by
  rw [h.frame]
  rfl

theorem Ppu.look_of_lands (p : Ppu) (row : Nat) {x i : Nat} {o : Sprite} (hi : i < 8) (h : o.x.toNat + i = x + 8) :
    p.look row x o = p.spriteColour row o i := by
  have hat : x + 8 - o.x.toNat = i := by omega
  rw [Ppu.look, hat, if_pos (by omega)]

/-- A sprite's pixel that lands outside the screen draws nothing. -/
theorem Ppu.spritePixel_of_outside {row i : Nat} {o : Sprite} (h : ∀ x, x < 160 → o.x.toNat + i ≠ x + 8) (q : Ppu) :
    Ppu.spritePixel row o q i = q := by
  have hsx : (o.x.toNat : Int) - 8 + i < 0 ∨ (o.x.toNat : Int) - 8 + i ≥ 160 := by
    have := h (o.x.toNat + i - 8)
    omega
  simp only [Ppu.spritePixel]
  rw [if_pos (by simpa using hsx)]

/-- A sprite's pixel that lands on place `x` draws there if the sprite shows and no sprite has drawn before. -/
theorem Ppu.spritePixel_of_lands {row x i : Nat} {o : Sprite} (hi : i < 8) (hx : x < 160)
    (h : o.x.toNat + i = x + 8) (q : Ppu) :
    Ppu.spritePixel row o q i =
      if q.slot x ≠ .sprite ∧ q.shows row x (q.slot x) o = true then q.plot row x (q.spriteDrawn row x o) else q := by
  have hsx : (o.x.toNat : Int) - 8 + i = x := by omega
  simp only [Ppu.spritePixel, Ppu.shows, Ppu.spriteDrawn, q.look_of_lands row hi h, hsx, Int.toNat_natCast]
  rw [if_neg (by simp; omega)]
  by_cases hcolour : q.spriteColour row o i = 0
  · simp [hcolour]
  by_cases hbehind : (o.flags.getLsbD 7 && q.slot x == .background) = true
  · rw [if_neg hcolour, if_pos hbehind, hbehind]
    simp
  rw [if_neg hcolour, if_neg hbehind, Bool.eq_false_iff.2 hbehind]
  by_cases hsprite : q.slot x = .sprite
  · simp [hsprite]
  · simp [hsprite, hcolour, Ppu.plot]

theorem Ppu.onRow_spritePixel (row : Nat) (o : Sprite) (q : Ppu) {i : Nat} (hi : i < 8) :
    Ppu.OnRow row q (Ppu.spritePixel row o q i) := by
  by_cases h : ∃ x, x < 160 ∧ o.x.toNat + i = x + 8
  · obtain ⟨x, hx, hlands⟩ := h
    rw [Ppu.spritePixel_of_lands hi hx hlands]
    split
    · exact q.onRow_plot row hx _
    · exact .refl row q
  · rw [Ppu.spritePixel_of_outside fun x hx hlands => h ⟨x, hx, hlands⟩]
    exact .refl row q

theorem Ppu.pixel_spritePixel_other {row x i : Nat} {o : Sprite} (hi : i < 8) (h : o.x.toNat + i ≠ x + 8) (q : Ppu) :
    (Ppu.spritePixel row o q i).pixel row x = q.pixel row x := by
  by_cases hon : ∃ y, y < 160 ∧ o.x.toNat + i = y + 8
  · obtain ⟨y, hy, hlands⟩ := hon
    rw [Ppu.spritePixel_of_lands hi hy hlands]
    split
    · exact q.pixel_plot_other row (by omega) _
    · rfl
  · rw [Ppu.spritePixel_of_outside fun y hy hlands => hon ⟨y, hy, hlands⟩]

theorem Ppu.onRow_drawSprite (row : Nat) (p : Ppu) (o : Sprite) : Ppu.OnRow row p (Ppu.drawSprite row p o) :=
  Ppu.onRow_foldl (fun q _ hi => q.onRow_spritePixel row o (List.mem_range.1 hi)) p

/-- A sprite at place `x`: of its eight pixels one lands there or none does. -/
theorem Ppu.pixel_drawSprite {row x : Nat} {p : Ppu} (hwf : Memory.wf p.fb = true) (hx : x < 160) (o : Sprite) :
    (Ppu.drawSprite row p o).pixel row x =
      if p.slot x ≠ .sprite ∧ p.shows row x (p.slot x) o = true then p.spriteDrawn row x o else p.pixel row x := by
  by_cases h : ∃ i, i < 8 ∧ o.x.toNat + i = x + 8
  case pos =>
    obtain ⟨i, hi, hlands⟩ := h
    obtain ⟨q, hq, hpixel, hdraw⟩ := Ppu.pixel_foldl_range (row := row) (x := x) (f := Ppu.spritePixel row o) hi
      (fun q a ha => q.onRow_spritePixel row o ha)
      (fun q a ha hne => q.pixel_spritePixel_other ha (by omega)) p
    have hslot : q.slot x = p.slot x := congrArg Prod.snd hpixel
    rw [Ppu.drawSprite, hdraw, Ppu.spritePixel_of_lands hi hx hlands, hslot, hq.shows, hq.spriteDrawn]
    split
    · exact Ppu.pixel_plot_same (hq.wf hwf) row hx _
    · exact hpixel
  case neg =>
    have hlook : p.look row x o = 0 := if_neg fun hreach => h ⟨x + 8 - o.x.toNat, by omega, by omega⟩
    rw [if_neg (by simp [Ppu.shows, hlook])]
    exact Ppu.pixel_foldl_unchanged (fun q i hi =>
      q.pixel_spritePixel_other (List.mem_range.1 hi) fun hlands => h ⟨i, List.mem_range.1 hi, hlands⟩) p

/-- Once a sprite has drawn at a place, no later one does (R363). -/
theorem Ppu.pixel_drawSprites_of_sprite {row x : Nat} {p : Ppu} (hwf : Memory.wf p.fb = true) (hx : x < 160)
    (h : p.slot x = .sprite) (l : List Sprite) : (l.foldl (Ppu.drawSprite row) p).pixel row x = p.pixel row x := by
  induction l generalizing p with
  | nil => rfl
  | cons o l ih =>
    have hpixel : (Ppu.drawSprite row p o).pixel row x = p.pixel row x := by
      rw [Ppu.pixel_drawSprite hwf hx, if_neg fun hdraws => hdraws.1 h]
    rw [List.foldl_cons, ih ((p.onRow_drawSprite row o).wf hwf) ((congrArg Prod.snd hpixel).trans h), hpixel]

/-- Of the sprites drawn in turn the first that shows at a place decides it. -/
theorem Ppu.pixel_drawSprites {row x : Nat} {p : Ppu} (hwf : Memory.wf p.fb = true) (hx : x < 160)
    (h : p.slot x ≠ .sprite) (l : List Sprite) :
    (l.foldl (Ppu.drawSprite row) p).pixel row x =
      (l.find? (p.shows row x (p.slot x))).elim (p.pixel row x) (p.spriteDrawn row x) := by
  induction l generalizing p with
  | nil => rfl
  | cons o l ih =>
    have hrow := p.onRow_drawSprite row o
    have hpixel := p.pixel_drawSprite hwf hx o (row := row)
    rw [List.foldl_cons]
    by_cases hshows : p.shows row x (p.slot x) o = true
    · rw [if_pos ⟨h, hshows⟩] at hpixel
      rw [Ppu.pixel_drawSprites_of_sprite (hrow.wf hwf) hx (congrArg Prod.snd hpixel), hpixel,
        List.find?_cons_of_pos hshows, Option.elim_some]
    · rw [if_neg fun hdraws => hshows hdraws.2] at hpixel
      have hslot : (Ppu.drawSprite row p o).slot x = p.slot x := congrArg Prod.snd hpixel
      rw [ih (hrow.wf hwf) (hslot ▸ h), hpixel, hslot, hrow.shows, hrow.spriteDrawn, List.find?_cons_of_neg hshows]

/-! ## The row as a whole -/

theorem Ppu.onRow_setPri (row : Nat) (p : Ppu) (pri : Vector PriSlot 160) : Ppu.OnRow row p { p with pri := pri } :=
  ⟨rfl, id, fun _ _ => rfl⟩

theorem Ppu.onRow_rasteriseRow (p : Ppu) (row : Nat) : Ppu.OnRow row p (p.rasteriseRow row) :=
  ((p.onRow_setPri row _).trans (Ppu.onRow_bgPass row _)).trans
    (Ppu.onRow_foldl (fun q o _ => q.onRow_drawSprite row o) _)

/-- The first selected sprite that shows over the background decides the place, and where none does the background. -/
theorem Ppu.pixel_rasteriseRow {row x : Nat} {p : Ppu} (hwf : Memory.wf p.fb = true) (hx : x < 160) :
    (p.rasteriseRow row).pixel row x =
      ((p.selected row).find? (p.shows row x (p.bgDrawn row x .undrawn).2)).elim (p.bgDrawn row x .undrawn)
        (p.spriteDrawn row x) := by
  have hreset := p.onRow_setPri row (Vector.replicate 160 .undrawn)
  have hbg := hreset.trans (Ppu.onRow_bgPass row _)
  have hpixel := Ppu.pixel_bgPass (row := row) (p := { p with pri := Vector.replicate 160 .undrawn }) hwf hx
  have hundrawn : Ppu.slot { p with pri := Vector.replicate 160 .undrawn } x = .undrawn := by
    simp [Ppu.slot, hx]
  rw [hundrawn, hreset.bgDrawn] at hpixel
  have hslot : Ppu.slot (Ppu.bgPass row _) x = _ := congrArg Prod.snd hpixel
  have hfree : (p.bgDrawn row x .undrawn).2 ≠ .sprite := by
    simp only [Ppu.bgDrawn]
    split <;> simp
  rw [Ppu.rasteriseRow, Ppu.spritePass, Ppu.pixel_drawSprites (hbg.wf hwf) hx (hslot ▸ hfree), hslot, hpixel,
    hbg.selected, hbg.shows, hbg.spriteDrawn]

/-! ## The row in terms of the memories' bytes -/

/-- The colour index in bits `k` of the two bytes at `a` of a memory (R47). -/
def tileIndex (m : Memory) (a k : Nat) : Nat :=
  (Memory.read m a).toNat / 2 ^ k % 2 + 2 * ((Memory.read m (a + 1)).toNat / 2 ^ k % 2)

theorem bit1_eq (p : Nat) (b : Byte) : colourIndex.bit1 p b = b.toNat / 2 ^ (7 - p) % 2 := by
  have hbit : b.getLsbD (7 - p) = decide (b.toNat / 2 ^ (7 - p) % 2 = 1) := Nat.testBit_eq_decide_div_mod_eq
  rw [colourIndex.bit1, hbit]
  rcases Nat.mod_two_eq_zero_or_one (b.toNat / 2 ^ (7 - p)) with h | h <;> simp [h]

theorem pal_toNat (reg : Byte) (k : Nat) : (pal reg k).toNat = reg.toNat / 4 ^ k % 4 := by
  have hmask : (pal reg k).toNat = (reg.toNat >>> (2 * k)) &&& (2 ^ 2 - 1) := by simp [pal]
  rw [hmask, Nat.and_two_pow_sub_one_eq_mod, Nat.shiftRight_eq_div_pow, Nat.pow_mul]

theorem Ppu.v_add (p : Ppu) (a : Nat) : p.v (0x8000 + a) = Memory.read p.vram a := by
  rw [Ppu.v, Nat.add_sub_cancel_left]

theorem colourIndex_read (m : Memory) (a k : Nat) :
    colourIndex (Memory.read m a) (Memory.read m (a + 1)) k = tileIndex m a (7 - k) := by
  rw [colourIndex, bit1_eq, bit1_eq, tileIndex]

/-- Where in VRAM a background tile begins (R355). -/
theorem Ppu.tileAddr_eq (p : Ppu) (id : Byte) :
    p.tileAddr id =
      0x8000 + (if p.lcdc.getLsbD 4 then 16 * id.toNat else (0x1000 + 16 * id.toInt).toNat) := by
  have hmin := BitVec.le_toInt id
  unfold Ppu.tileAddr
  split
  · rfl
  · omega

theorem Ppu.mapBase_eq (p : Ppu) : p.mapBase = 0x8000 + (if p.lcdc.getLsbD 3 then 0x1C00 else 0x1800) := by
  unfold Ppu.mapBase
  split <;> rfl

theorem Ppu.bgColour_eq (p : Ppu) (row x : Nat) :
    p.bgColour row x =
      let px := (x + p.scx.toNat) % 256
      let py := (row + p.scy.toNat) % 256
      let id := Memory.read p.vram ((if p.lcdc.getLsbD 3 then 0x1C00 else 0x1800) + py / 8 * 32 + px / 8)
      tileIndex p.vram ((if p.lcdc.getLsbD 4 then 16 * id.toNat else (0x1000 + 16 * id.toInt).toNat) + 2 * (py % 8))
        (7 - px % 8) := by
  simp only [Ppu.bgColour, Ppu.mapBase_eq, Ppu.tileAddr_eq]
  simp only [Nat.add_assoc 0x8000, Ppu.v_add, colourIndex_read]

/-- The row of a sprite on which row `row` of the screen lies (R361). -/
def Sprite.line (o : Sprite) (row : Nat) : Nat := row + 16 - o.y.toNat

/-- The row of its tile, with Y-flip (R361). -/
def Sprite.tileRow (o : Sprite) (row : Nat) : Nat :=
  if o.flags.getLsbD 6 then 7 - o.line row % 8 else o.line row % 8

/-- The tile a sprite shows on a row (R361). -/
def Ppu.tileNumber (p : Ppu) (row : Nat) (o : Sprite) : Nat :=
  if p.lcdc.getLsbD 2 then o.tile.toNat / 2 * 2 + (if (decide (o.line row < 8)) = o.flags.getLsbD 6 then 1 else 0)
  else o.tile.toNat

theorem tile_pair (tile : Byte) :
    (tile &&& 0xFE).toNat = tile.toNat / 2 * 2 ∧ (tile ||| 0x01).toNat = tile.toNat / 2 * 2 + 1 := by
  revert tile
  decide

theorem Ppu.spriteRowAddr_eq (p : Ppu) (row : Nat) (o : Sprite) :
    p.spriteRowAddr row o = 0x8000 + (16 * p.tileNumber row o + 2 * o.tileRow row) := by
  obtain ⟨heven, hodd⟩ := tile_pair o.tile
  have hline : ((row : Int) - o.screenY).toNat = o.line row := by
    unfold Sprite.screenY Sprite.line
    omega
  have htall : p.spriteHeight = 16 ↔ p.lcdc.getLsbD 2 = true := by
    unfold Ppu.spriteHeight
    cases p.lcdc.getLsbD 2 <;> simp
  simp only [Ppu.spriteRowAddr, hline, htall]
  rw [Nat.add_assoc]
  congr 2
  unfold Ppu.tileNumber
  split
  · by_cases hhalf : decide (o.line row < 8) = o.flags.getLsbD 6
    · rw [if_pos hhalf, if_neg (by simpa using hhalf), hodd]
    · rw [if_neg hhalf, if_pos (by simpa using hhalf), heven, Nat.add_zero]
  · rfl

theorem Ppu.look_eq (p : Ppu) (row x : Nat) (o : Sprite) :
    p.look row x o =
      let i := x + 8 - o.x.toNat
      if o.x.toNat ≤ x + 8 ∧ i < 8 then
        tileIndex p.vram (16 * p.tileNumber row o + 2 * o.tileRow row) (if o.flags.getLsbD 5 then i else 7 - i)
      else 0 := by
  simp only [Ppu.look]
  split
  · next hreach =>
    simp only [Ppu.spriteColour, Ppu.spriteRowAddr_eq, Nat.add_assoc 0x8000, Ppu.v_add, colourIndex_read]
    split
    · rw [Nat.sub_sub_self (by omega)]
    · rfl
  · rfl

/-- Settles O58: the row as a whole, place by place, with the indices read from the memories' bytes. -/
theorem rasterRow : Obligations.RasterRow := by
  intro p row x hwf hx q at' px py id tile index shade background look winner
  have hbg : p.bgColour row x = background := p.bgColour_eq row x
  have hlook : p.look row x = look := funext fun o => p.look_eq row x o
  have hwinner : (p.selected row).find? (p.shows row x (p.bgDrawn row x .undrawn).2) = winner :=
    congrArg (List.find? · (p.selected row)) (funext fun o => by
      rw [Ppu.shows, Ppu.bgDrawn_beq_background, hbg, hlook])
  have hrow : Ppu.OnRow row p q := p.onRow_rasteriseRow row
  have hpixel : q.pixel row x = _ := Ppu.pixel_rasteriseRow hwf hx
  rw [hwinner] at hpixel
  clear_value q
  have hfb : Memory.read q.fb at' = _ := congrArg Prod.fst hpixel
  have hslot : q.slot x = _ := congrArg Prod.snd hpixel
  refine ⟨hrow.otherRows, ?_, ?_⟩
  · rw [hslot, ← hbg]
    cases winner <;> rfl
  · rw [hfb]
    cases winner with
    | none => exact (pal_toNat _ _).trans (by rw [hbg])
    | some o => exact (pal_toNat _ _).trans (by rw [hlook])

end Sys2Proof.Machine
end

section
/-! # The families and the rows that stand alone (30_encoding.md R131 to R137)

The whole instructions, without `prefixCb`, each row in one family or alone: the case split that every fact
about all instructions uses. -/

namespace Sys2Proof.Machine

/-- A property of every whole instruction, from its families, the rows that stand alone and the 11 undefined opcodes. -/
theorem Instr.wellFormed_cases {P : Instr → Prop}
    (ldRR : ∀ q r, P (Instr.ldRR q r)) (ldRN : ∀ r n, P (Instr.ldRN r n)) (ldRHl : ∀ r, P (Instr.ldRHl r))
    (ldHlR : ∀ r, P (Instr.ldHlR r)) (ldPairNN : ∀ p v, P (Instr.ldPairNN p v)) (push : ∀ p, P (Instr.push p))
    (pop : ∀ p, P (Instr.pop p)) (aluR : ∀ op r, P (Instr.aluR op r)) (aluHl : ∀ op, P (Instr.aluHl op))
    (aluN : ∀ op n, P (Instr.aluN op n)) (incR : ∀ r, P (Instr.incR r)) (decR : ∀ r, P (Instr.decR r))
    (addHl : ∀ p, P (Instr.addHl p)) (incPair : ∀ p, P (Instr.incPair p)) (decPair : ∀ p, P (Instr.decPair p))
    (jpCc : ∀ cc v, P (Instr.jpCc cc v)) (jrCc : ∀ cc e, P (Instr.jrCc cc e)) (callCc : ∀ cc v, P (Instr.callCc cc v))
    (retCc : ∀ cc, P (Instr.retCc cc)) (rst : ∀ y, P (Instr.rst y))
    (rotR : ∀ op r, P (Instr.rotR op r)) (rotHl : ∀ op, P (Instr.rotHl op)) (bitR : ∀ n r, P (Instr.bitR n r))
    (bitHl : ∀ n, P (Instr.bitHl n)) (resR : ∀ n r, P (Instr.resR n r)) (resHl : ∀ n, P (Instr.resHl n))
    (setR : ∀ n r, P (Instr.setR n r)) (setHl : ∀ n, P (Instr.setHl n))
    (ldMemA16Sp : ∀ v, P (.ldMemA16Sp v)) (ldSpHl : P .ldSpHl) (ldMemHlD8 : ∀ n, P (.ldMemHlD8 n))
    (ldMemBcA : P .ldMemBcA) (ldMemDeA : P .ldMemDeA) (ldMemA16A : ∀ v, P (.ldMemA16A v))
    (ldhMemA8A : ∀ n, P (.ldhMemA8A n)) (ldMemCA : P .ldMemCA) (ldMemHlIncA : P .ldMemHlIncA)
    (ldMemHlDecA : P .ldMemHlDecA) (ldAMemBc : P .ldAMemBc) (ldAMemDe : P .ldAMemDe)
    (ldAMemA16 : ∀ v, P (.ldAMemA16 v)) (ldhAMemA8 : ∀ n, P (.ldhAMemA8 n)) (ldAMemC : P .ldAMemC)
    (ldAMemHlInc : P .ldAMemHlInc) (ldAMemHlDec : P .ldAMemHlDec) (ldHlSpE8 : ∀ e, P (.ldHlSpE8 e))
    (addSpE8 : ∀ e, P (.addSpE8 e)) (incMemHl : P .incMemHl) (decMemHl : P .decMemHl)
    (rlca : P .rlca) (rrca : P .rrca) (rla : P .rla) (rra : P .rra)
    (daa : P .daa) (cpl : P .cpl) (scf : P .scf) (ccf : P .ccf)
    (jpA16 : ∀ v, P (.jpA16 v)) (jpHl : P .jpHl) (jrE8 : ∀ e, P (.jrE8 e)) (callA16 : ∀ v, P (.callA16 v))
    (ret : P .ret) (reti : P .reti) (nop : P .nop) (halt : P .halt) (stop : ∀ n, P (.stop n)) (di : P .di) (ei : P .ei)
    (undefined : ∀ i ∈ Instr.undefinedRows, P i) {i : Instr} (hi : i.wellFormed = true) : P i := by
  have hprefix : i ≠ .prefixCb := by simpa [Instr.wellFormed] using hi
  clear hi
  have hundef : ∀ i ∈ Instr.undefinedRows, i ≠ .prefixCb → P i := fun i h _ => undefined i h
  revert hprefix
  refine Instr.byFamily (P := fun i => i ≠ .prefixCb → P i)
    (prefixCb := fun h => absurd rfl h)
    (ldRR := fun q r _ => ldRR q r) (ldBB := fun _ => ldRR .b .b)
    (ldRN := fun r n _ => ldRN r n) (ldBD8 := fun n _ => ldRN .b n)
    (ldRHl := fun r _ => ldRHl r) (ldBMemHl := fun _ => ldRHl .b)
    (ldHlR := fun r _ => ldHlR r) (ldMemHlB := fun _ => ldHlR .b)
    (ldPairNN := fun p v _ => ldPairNN p v) (ldBcD16 := fun v _ => ldPairNN .bc v)
    (push := fun p _ => push p) (pushBc := fun _ => push .bc)
    (pop := fun p _ => pop p) (popBc := fun _ => pop .bc)
    (aluR := fun op r _ => aluR op r) (addAB := fun _ => aluR .add .b)
    (aluHl := fun op _ => aluHl op) (addAMemHl := fun _ => aluHl .add)
    (aluN := fun op n _ => aluN op n) (addAD8 := fun n _ => aluN .add n)
    (incR := fun r _ => incR r) (incB := fun _ => incR .b)
    (decR := fun r _ => decR r) (decB := fun _ => decR .b)
    (addHl := fun p _ => addHl p) (addHlBc := fun _ => addHl .bc)
    (incPair := fun p _ => incPair p) (incBc := fun _ => incPair .bc)
    (decPair := fun p _ => decPair p) (decBc := fun _ => decPair .bc)
    (jpCc := fun cc v _ => jpCc cc v) (jpNzA16 := fun v _ => jpCc .nz v)
    (jrCc := fun cc e _ => jrCc cc e) (jrNzE8 := fun e _ => jrCc .nz e)
    (callCc := fun cc v _ => callCc cc v) (callNzA16 := fun v _ => callCc .nz v)
    (retCc := fun cc _ => retCc cc) (retNz := fun _ => retCc .nz)
    (rst := fun y _ => rst y) (rst00 := fun _ => rst 0)
    (rotR := fun op r _ => rotR op r) (rlcB := fun _ => rotR .rlc .b)
    (rotHl := fun op _ => rotHl op) (rlcMemHl := fun _ => rotHl .rlc)
    (bitR := fun n r _ => bitR n r) (bit0B := fun _ => bitR 0 .b)
    (bitHl := fun n _ => bitHl n) (bit0MemHl := fun _ => bitHl 0)
    (resR := fun n r _ => resR n r) (res0B := fun _ => resR 0 .b)
    (resHl := fun n _ => resHl n) (res0MemHl := fun _ => resHl 0)
    (setR := fun n r _ => setR n r) (set0B := fun _ => setR 0 .b)
    (setHl := fun n _ => setHl n) (set0MemHl := fun _ => setHl 0)
    (ldMemA16Sp := fun v _ => ldMemA16Sp v) (ldSpHl := fun _ => ldSpHl) (ldMemHlD8 := fun n _ => ldMemHlD8 n)
    (ldMemBcA := fun _ => ldMemBcA) (ldMemDeA := fun _ => ldMemDeA) (ldMemA16A := fun v _ => ldMemA16A v)
    (ldhMemA8A := fun n _ => ldhMemA8A n) (ldMemCA := fun _ => ldMemCA) (ldMemHlIncA := fun _ => ldMemHlIncA)
    (ldMemHlDecA := fun _ => ldMemHlDecA) (ldAMemBc := fun _ => ldAMemBc) (ldAMemDe := fun _ => ldAMemDe)
    (ldAMemA16 := fun v _ => ldAMemA16 v) (ldhAMemA8 := fun n _ => ldhAMemA8 n) (ldAMemC := fun _ => ldAMemC)
    (ldAMemHlInc := fun _ => ldAMemHlInc) (ldAMemHlDec := fun _ => ldAMemHlDec) (ldHlSpE8 := fun e _ => ldHlSpE8 e)
    (addSpE8 := fun e _ => addSpE8 e) (incMemHl := fun _ => incMemHl) (decMemHl := fun _ => decMemHl)
    (rlca := fun _ => rlca) (rrca := fun _ => rrca) (rla := fun _ => rla) (rra := fun _ => rra)
    (daa := fun _ => daa) (cpl := fun _ => cpl) (scf := fun _ => scf) (ccf := fun _ => ccf)
    (jpA16 := fun v _ => jpA16 v) (jpHl := fun _ => jpHl) (jrE8 := fun e _ => jrE8 e)
    (callA16 := fun v _ => callA16 v) (ret := fun _ => ret) (reti := fun _ => reti) (nop := fun _ => nop)
    (halt := fun _ => halt) (stop := fun n _ => stop n) (di := fun _ => di) (ei := fun _ => ei)
    (undefD3 := ?_) (undefDB := ?_) (undefDD := ?_) (undefE3 := ?_) (undefE4 := ?_) (undefEB := ?_) (undefEC := ?_)
    (undefED := ?_) (undefF4 := ?_) (undefFC := ?_) (undefFD := ?_) i
  all_goals exact hundef _ (by simp [Instr.undefinedRows])

end Sys2Proof.Machine
end

section
/-! # Decoding and encoding (30_encoding.md R130, R131, R141 to R146)

The two directions rest on the two tables: each family of instructions finds its row under its first byte, and
`encode_primaryRow` says of each of the 256 rows of the primary map what bytes its instructions have. -/

namespace Sys2Proof

/-! ## The rows of the primary map -/

/-- The instruction of a row with the operand `v`, of which a one-byte operand is the low half (R130, R141). -/
def Row.instr (v : Word) : Row → Instr
  | .one i => i
  | .imm8 f => f (loByte v)
  | .imm16 f => f v
  | .cbPrefix => .prefixCb

/-- The bytes of that instruction, where `op` is the opcode of the row. -/
def Row.bytes (op : Byte) (v : Word) : Row → List Byte
  | .one _ => [op]
  | .imm8 _ => [op, loByte v]
  | .imm16 _ => [op, loByte v, hiByte v]
  | .cbPrefix => [op]

/-- How many bytes the whole instructions of a row have (R146); behind the byte CB there is one more. -/
def Row.length : Row → Nat
  | .one _ => 1
  | .imm8 _ => 2
  | .imm16 _ => 3
  | .cbPrefix => 2

namespace Machine

/-! ## What the decoder answers for a row -/

theorem decode_one {op : Byte} {i : Instr} (h : primaryRow op = .one i) (rest : List Byte) :
    decode (op :: rest) = .ok (i, rest) := by simp only [decode, h]

theorem decode_imm8 {op : Byte} {f : Byte → Instr} (h : primaryRow op = .imm8 f) (n : Byte) (rest : List Byte) :
    decode (op :: n :: rest) = .ok (f n, rest) := by simp only [decode, h]

theorem decode_imm16 {op : Byte} {f : Word → Instr} (h : primaryRow op = .imm16 f) (v : Word) (rest : List Byte) :
    decode (op :: loByte v :: hiByte v :: rest) = .ok (f v, rest) := by
  simp only [decode, h, join_hiByte_loByte]

/-! ## From an instruction to its bytes and back -/

/-- The decoder reads the bytes of `i` as `i` and leaves what follows them. -/
def Instr.DecodesBack (i : Instr) : Prop := ∀ rest, decode (encode i ++ rest) = .ok (i, rest)

theorem decodesBack_of_one {i : Instr} {op : Byte} (he : encode i = [op]) (h : primaryRow op = .one i) :
    Instr.DecodesBack i := fun rest => by rw [he]; exact decode_one h rest

theorem decodesBack_of_imm8 {f : Byte → Instr} {op n : Byte} (he : encode (f n) = [op, n])
    (h : primaryRow op = .imm8 f) : Instr.DecodesBack (f n) := fun rest => by rw [he]; exact decode_imm8 h n rest

theorem decodesBack_of_imm16 {f : Word → Instr} {op : Byte} {v : Word} (he : encode (f v) = [op, loByte v, hiByte v])
    (h : primaryRow op = .imm16 f) : Instr.DecodesBack (f v) := fun rest => by rw [he]; exact decode_imm16 h v rest

theorem decodesBack_of_cb {i : Instr} {op2 : Byte} (he : encode i = [0xCB, op2]) (h : cbRow op2 = i) :
    Instr.DecodesBack i := fun rest => by rw [he, ← h]; exact decode_cb op2 rest

theorem decodesBack_undefined {i : Instr} (h : i ∈ Instr.undefinedRows) : Instr.DecodesBack i := by
  simp only [Instr.undefinedRows, List.mem_cons, List.not_mem_nil, or_false] at h
  rcases h with rfl | rfl | rfl | rfl | rfl | rfl | rfl | rfl | rfl | rfl | rfl <;> exact decodesBack_of_one rfl rfl

/-- Settles O1: each family of the primary map finds its row under its first byte, each of the CB map its row under its
second. -/
theorem decodeOfEncode : Obligations.DecodeOfEncode := by
  intro i rest hi
  revert rest
  apply Instr.wellFormed_cases (P := Instr.DecodesBack) (hi := hi)
  case rotR => exact fun op r => decodesBack_of_cb (encode_rotR op r) (cbRow_rotR op r)
  case rotHl => exact fun op => decodesBack_of_cb (encode_rotHl op) (cbRow_rotHl op)
  case bitR => exact fun n r => decodesBack_of_cb (encode_bitR n r) (cbRow_bitR n r)
  case bitHl => exact fun n => decodesBack_of_cb (encode_bitHl n) (cbRow_bitHl n)
  case resR => exact fun n r => decodesBack_of_cb (encode_resR n r) (cbRow_resR n r)
  case resHl => exact fun n => decodesBack_of_cb (encode_resHl n) (cbRow_resHl n)
  case setR => exact fun n r => decodesBack_of_cb (encode_setR n r) (cbRow_setR n r)
  case setHl => exact fun n => decodesBack_of_cb (encode_setHl n) (cbRow_setHl n)
  case ldRR | aluR => exact fun x r => by cases x <;> cases r <;> exact decodesBack_of_one rfl rfl
  case ldRHl | ldHlR | push | pop | aluHl | incR | decR | addHl | incPair | decPair | retCc =>
    exact fun x => by cases x <;> exact decodesBack_of_one rfl rfl
  case rst => exact fun y => by fin_cases y <;> exact decodesBack_of_one rfl rfl
  case ldRN | aluN | jrCc => exact fun x _ => by cases x <;> exact decodesBack_of_imm8 rfl rfl
  case ldPairNN | jpCc | callCc => exact fun x _ => by cases x <;> exact decodesBack_of_imm16 rfl rfl
  case ldMemHlD8 | ldhMemA8A | ldhAMemA8 | ldHlSpE8 | addSpE8 | jrE8 | stop =>
    exact fun _ => decodesBack_of_imm8 rfl rfl
  case ldMemA16Sp | ldMemA16A | ldAMemA16 | jpA16 | callA16 => exact fun _ => decodesBack_of_imm16 rfl rfl
  case undefined => exact fun i h => decodesBack_undefined h
  all_goals exact decodesBack_of_one rfl rfl

/-! ## From bytes to an instruction and back -/

/-- Every row of the primary map, all 256 of them, holds the instruction of its opcode (R142). -/
theorem encode_primaryRow (op : Byte) (v : Word) :
    encode ((primaryRow op).instr v) = (primaryRow op).bytes op v := by
  obtain ⟨k, hk, rfl⟩ : ∃ k < 256, BitVec.ofNat 8 k = op := ⟨op.toNat, op.isLt, by simp⟩
  interval_cases k <;> rfl

theorem encode_of_one {op : Byte} {i : Instr} (h : primaryRow op = .one i) : encode i = [op] := by
  simpa only [h, Row.instr, Row.bytes] using encode_primaryRow op 0

theorem encode_of_imm8 {op : Byte} {f : Byte → Instr} (h : primaryRow op = .imm8 f) (n : Byte) :
    encode (f n) = [op, n] := by
  simpa only [h, Row.instr, Row.bytes, loByte_join] using encode_primaryRow op (join 0 n)

theorem encode_of_imm16 {op : Byte} {f : Word → Instr} (h : primaryRow op = .imm16 f) (hi lo : Byte) :
    encode (f (join hi lo)) = [op, lo, hi] := by
  simpa only [h, Row.instr, Row.bytes, loByte_join, hiByte_join] using encode_primaryRow op (join hi lo)

theorem eq_of_cbPrefix {op : Byte} (h : primaryRow op = .cbPrefix) : op = 0xCB := by
  have he := encode_primaryRow op 0
  rw [h] at he
  exact (List.cons.inj he).1.symm

/-- Settles O2: by the row of the first byte; `prefixCb` too is the encoding of what it decodes to. -/
theorem encodeOfDecode : Obligations.EncodeOfDecode := by
  intro bytes rest i h
  cases bytes with
  | nil => cases h
  | cons op tail =>
    simp only [decode] at h
    split at h
    case h_1 hrow =>
      cases h
      rw [encode_of_one hrow]; rfl
    case h_2 hrow =>
      cases tail with
      | nil => cases h
      | cons n tail => cases h; rw [encode_of_imm8 hrow]; rfl
    case h_3 hrow =>
      split at h
      · cases h; rw [encode_of_imm16 hrow]; rfl
      · cases h
    case h_4 hrow =>
      rw [eq_of_cbPrefix hrow]
      cases tail with
      | nil => cases h; rfl
      | cons op2 tail => cases h; rw [encode_cbRow]; rfl

/-! ## Lengths -/

theorem wellFormed_of_encode {i : Instr} {op : Byte} {operands : List Byte} (he : encode i = op :: operands)
    (h : op :: operands ≠ [0xCB]) : i.wellFormed = true := by
  simp only [Instr.wellFormed, bne_iff_ne]
  rintro rfl
  exact h he.symm

/-- Three bytes hold the instruction of their first byte's row, and it is whole. -/
theorem decode_of_three (op b c : Byte) (rest : List Byte) : ∃ i : Instr,
    decode (op :: b :: c :: rest) = .ok (i, (b :: c :: rest).drop (i.length - 1)) ∧ i.wellFormed = true ∧
      i.length = (primaryRow op).length := by
  cases hrow : primaryRow op with
  | one i =>
    have he := encode_of_one hrow
    refine ⟨i, ?_, wellFormed_of_encode he ?_, by rw [Instr.length, he]; rfl⟩
    · rw [decode_one hrow, Instr.length, he]; rfl
    · rintro hop
      rw [(List.cons.inj hop).1] at hrow
      cases hrow
  | imm8 f =>
    have he := encode_of_imm8 hrow b
    refine ⟨f b, ?_, wellFormed_of_encode he (by simp), by rw [Instr.length, he]; rfl⟩
    rw [decode_imm8 hrow, Instr.length, he]; rfl
  | imm16 f =>
    have he := encode_of_imm16 hrow c b
    refine ⟨f (join c b), ?_, wellFormed_of_encode he (by simp), by rw [Instr.length, he]; rfl⟩
    rw [Instr.length, he]
    simp only [decode, hrow]; rfl
  | cbPrefix =>
    have he := encode_cbRow b
    refine ⟨cbRow b, ?_, wellFormed_of_encode he (by simp), by rw [Instr.length, he]; rfl⟩
    rw [eq_of_cbPrefix hrow, decode_cb, Instr.length, he]; rfl

/-- The two lists of R146, over the whole primary map. -/
theorem length_primaryRow (op : Byte) : (primaryRow op).length =
    if op ∈ [0x01, 0x08, 0x11, 0x21, 0x31, 0xC2, 0xC3, 0xC4, 0xCA, 0xCC, 0xCD, 0xD2, 0xD4, 0xDA, 0xDC, 0xEA, 0xFA] then 3
    else if op ∈ [0x06, 0x0E, 0x10, 0x16, 0x18, 0x1E, 0x20, 0x26, 0x28, 0x2E, 0x30, 0x36, 0x38, 0x3E, 0xC6, 0xCB, 0xCE,
                  0xD6, 0xDE, 0xE0, 0xE6, 0xE8, 0xEE, 0xF0, 0xF6, 0xF8, 0xFE] then 2
    else 1 := by
  revert op
  decide

/-- Settles O3: the length is that of the first byte's row. -/
theorem lengthOfFirstByte : Obligations.LengthOfFirstByte := by
  intro op b c rest
  obtain ⟨i, hdecode, hwf, hlength⟩ := decode_of_three op b c rest
  exact ⟨i, hdecode, hwf, hlength.trans (length_primaryRow op)⟩

/-- Settles O4: each word is evaluated by the decoder. -/
theorem wordsOfTheSpec : Obligations.WordsOfTheSpec :=
  ⟨rfl, rfl, rfl, rfl, rfl, rfl, rfl, rfl, rfl, rfl, rfl, rfl, rfl, rfl, rfl, rfl, rfl, rfl, rfl, rfl⟩

end Machine

end Sys2Proof
end

section
/-! # `SBC`, `DAA` and `SP + e8` (42_alu8.md R210 to R212, R229; 41_load16.md R196; 43_alu16.md R243)

The flags of `SP + e8` are the carries into bits 4 and 8 of the sum, which `BitVec.carry` names. -/

namespace Sys2Proof.Machine

/-- Settles O19: `Sub8` on A with the carry flag as carry-in. -/
theorem subtractWithCarry : Obligations.SubtractWithCarry := by
  refine ⟨aluShape .sbc, fun s i v hform => ?_⟩
  have hne : AluOp.sbc ≠ .cp := by decide
  refine ⟨opAlu .sbc v s, exec_of_aluForm hform, ?_, ?_, regFrame_opAlu_of_ne hne v s⟩
  · rw [opAlu_cpu_a hne]; exact sub8_val_toNat s.cpu.a v s.cpu.f.c
  · rw [opAlu_cpu_f]; exact sub8_f s.cpu.a v s.cpu.f.c

/-! ## `DAA` -/

/-- C after `DAA`, and whether it corrects by 0x60 (R229). -/
def daaHigh (a : Nat) (f : Flags) : Bool := f.c || (!f.n && decide (a > 0x99))

/-- Whether `DAA` corrects by 6 (R229). -/
def daaLow (a : Nat) (f : Flags) : Bool := f.h || (!f.n && decide (a % 16 > 9))

/-- The corrected A without bound (R229, decision D26). -/
def daaSum (a : Nat) (f : Flags) : Int :=
  let amount : Int := (if daaHigh a f then 0x60 else 0) + (if daaLow a f then 6 else 0)
  if f.n then (a : Int) - amount else a + amount

/-- R229's own computation: the two corrections one after the other, and C. -/
def daaSteps (a : Nat) (f : Flags) : Int × Bool :=
  let x : Int := a
  if f.n then
    let x := if f.h then x - 0x06 else x
    (if f.c then x - 0x60 else x, f.c)
  else
    let x := if f.h || a % 16 > 9 then x + 0x06 else x
    if f.c || x > 0x9F then (x + 0x60, true) else (x, f.c)

theorem daa_eq_daaSteps (a : Byte) (f : Flags) :
    daa a f =
      { val := BitVec.ofInt 8 (daaSteps a.toNat f).1,
        f := { z := BitVec.ofInt 8 (daaSteps a.toNat f).1 == 0, n := f.n, h := false, c := (daaSteps a.toNat f).2 } } :=
  rfl

/-- After an addition the two tests for the high correction agree: with the low correction made A is above 0x9F where
without it A is above 0x99. -/
theorem daaHigh_of_add (a : Nat) {f : Flags} (hn : f.n = false) :
    (f.c || decide ((a : Int) + (if daaLow a f then 6 else 0) > 0x9F)) = daaHigh a f := by
  rw [daaHigh, hn, Bool.not_false, Bool.true_and]
  refine congrArg (f.c || ·) (decide_eq_decide.2 ?_)
  split
  · omega
  · next hlow =>
    simp only [daaLow, hn, Bool.not_false, Bool.true_and, Bool.or_eq_true, decide_eq_true_eq, not_or] at hlow
    omega

theorem daaSteps_eq (a : Nat) (f : Flags) : daaSteps a f = (daaSum a f, daaHigh a f) := by
  cases hn : f.n
  case true =>
    cases hh : f.h <;> cases hc : f.c <;> simp [daaSteps, daaSum, daaHigh, daaLow, hn, hh, hc, sub_sub, add_comm]
  case false =>
    have hlow : (if f.h || decide (a % 16 > 9) then (a : Int) + 6 else a) = a + (if daaLow a f then 6 else 0) := by
      simp only [daaLow, hn, Bool.not_false, Bool.true_and]
      split <;> simp
    simp only [daaSteps, daaSum, hn, Bool.false_eq_true, if_false, hlow, daaHigh_of_add a hn]
    cases hhigh : daaHigh a f
    case true => simp [add_comm, add_left_comm]
    case false =>
      have hc : f.c = false := (Bool.or_eq_false_iff.1 hhigh).1
      simp [hc]

theorem toNat_ofInt_eight (x : Int) : ((BitVec.ofInt 8 x).toNat : Int) = x % 256 := by
  have hval : (BitVec.ofInt 8 x).toNat = (x % 256).toNat := BitVec.toNat_ofInt _
  omega

theorem ofInt_eight_beq_zero (x : Int) : (BitVec.ofInt 8 x == 0) = decide (x % 256 = 0) := by
  rw [Byte.beq_eq_decide_toNat, ← toNat_ofInt_eight]
  exact decide_eq_decide.2 Int.natCast_eq_zero.symm

/-- Settles O23: one write to A, then the flags, in the closed form of `daaSteps_eq`. -/
theorem decimalAdjust : Obligations.DecimalAdjust := by
  refine ⟨rfl, hasCost_of_encode rfl rfl rfl, fun s =>
    ⟨opDaa s, rfl, ?_, ?_, regFrame_setReg_setFlags s .a _ _⟩⟩
  · show ((daa s.cpu.a s.cpu.f).val.toNat : Int) = _
    rw [daa_eq_daaSteps, daaSteps_eq]; exact toNat_ofInt_eight _
  · show (daa s.cpu.a s.cpu.f).f = _
    rw [daa_eq_daaSteps, daaSteps_eq, ofInt_eight_beq_zero]; rfl

/-! ## `SP + e8` -/

/-- A bit of `x ^ y ^ (x + y)` is the carry into that bit. -/
theorem getLsbD_xor_xor_add {w i : Nat} (hi : i < w) (x y : BitVec w) :
    (x ^^^ y ^^^ (x + y)).getLsbD i = decide (x.toNat % 2 ^ i + y.toNat % 2 ^ i ≥ 2 ^ i) := by
  rw [BitVec.getLsbD_xor, BitVec.getLsbD_xor, BitVec.getLsbD_add hi]
  simp only [BitVec.carry, Bool.toNat_false, Nat.add_zero]
  cases x.getLsbD i <;> cases y.getLsbD i <;> simp


theorem sext16_toNat_mod (n : Byte) : (sext16 n).toNat % 256 = n.toNat := by
  revert n; decide

/-- The flags of `SP + e8` are the carries of the addition of the low bytes (R196). -/
theorem addSp16_f (sp : Word) (n : Byte) : (addSp16 sp n).f =
    { z := false, n := false, h := decide (sp.toNat % 16 + n.toNat % 16 > 15),
      c := decide (sp.toNat % 256 + n.toNat > 255) } := by
  have he := sext16_toNat_mod n
  have hh := getLsbD_xor_xor_add (i := 4) (by decide) sp (sext16 n)
  have hc := getLsbD_xor_xor_add (i := 8) (by decide) sp (sext16 n)
  simp only [addSp16, Flags.mk.injEq, true_and]
  rw [hh, hc]
  constructor <;> exact decide_eq_decide.2 (by omega)

theorem opLdHlSp_hl (e : Byte) (s : State) : (opLdHlSp e s).hl = s.cpu.sp + sext16 e := s.hl_setHl _

/-- Settles O16: one write to the pair, then the flags of `addSp16`. -/
theorem spPlusDisplacement : Obligations.SpPlusDisplacement := by
  refine fun n => ⟨rfl, hasCost_of_encode rfl rfl rfl, rfl, hasCost_of_encode rfl rfl rfl, fun s => ?_⟩
  rw [← sext16_eq]
  have hf := addSp16_f s.cpu.sp n
  exact ⟨⟨opLdHlSp n s, rfl, opLdHlSp_hl n s, rfl, (pairFrame_setPair s .hl _).setFlags _⟩,
    ⟨opAddSp n s, rfl, rfl, rfl, (pairFrame_setPair s .sp _).setFlags _⟩, congrArg Flags.h hf, congrArg Flags.c hf⟩

end Sys2Proof.Machine
end

section
/-! # What running an instruction can do (20_memory.md R70; 10_state.md R25, R26)

`Instr.Runs` says of one run which bus writes it made and which of the flags, `ime` and `halt` it left. It is shown
once for every whole instruction, family by family, from the frames of the shared operations. -/

namespace Sys2Proof.Machine

/-- From `s` to `t` instruction `i` made the bus writes of `storesOf`, and changed a flag, `ime` or `halt` only if it is
one of those that may. -/
structure Instr.Runs (i : Instr) (s t : State) : Prop where
  outside : t = { s.busWrites (storesOf s i) with cpu := t.cpu }
  flags : Instr.writesFlags i ∨ t.cpu.f = s.cpu.f
  ime : t.cpu.ime = s.cpu.ime ∨ i = .ei ∨ i = .di ∨ i = .reti
  halt : t.cpu.halt = s.cpu.halt ∨ i = .halt

/-- `i` completes in every state, as `Instr.Runs` says. -/
def Instr.Completes (i : Instr) : Prop := ∀ s, ∃ t, exec i s = .next t ∧ Instr.Runs i s t

/-! ## Instructions that store nothing -/

theorem SameOutsideCpu.outside {i : Instr} {s t : State} (h : SameOutsideCpu s t) (hs : storesOf s i = []) :
    t = { s.busWrites (storesOf s i) with cpu := t.cpu } := by
  rw [hs]; exact h.1

theorem completes_of_regFrame {i : Instr} {qs : List Reg8} {u : State → State} (hs : ∀ s, storesOf s i = [])
    (he : ∀ s, exec i s = .next (u s)) (hframe : ∀ s, RegFrame qs s (u s))
    (hf : Instr.writesFlags i ∨ ∀ s, (u s).cpu.f = s.cpu.f) : Instr.Completes i := fun s => by
  obtain ⟨hout, -, -, -, hhalt, hime⟩ := hframe s
  exact ⟨u s, he s, hout.outside (hs s), hf.imp_right (· s), .inl hime, .inl hhalt⟩

theorem completes_of_pairFrame {i : Instr} {p : Pair} {u : State → State} (hs : ∀ s, storesOf s i = [])
    (he : ∀ s, exec i s = .next (u s)) (hframe : ∀ s, PairFrame p s (u s))
    (hf : Instr.writesFlags i ∨ ∀ s, (u s).cpu.f = s.cpu.f) : Instr.Completes i := fun s => by
  obtain ⟨hout, -, -, -, hhalt, hime⟩ := hframe s
  exact ⟨u s, he s, hout.outside (hs s), hf.imp_right (· s), .inl hime, .inl hhalt⟩

/-- Of the loads of a register (R160 to R162, R165 to R178). -/
theorem completes_of_setReg {i : Instr} (q : Reg8) (v : State → Byte) (hs : ∀ s, storesOf s i = [])
    (he : ∀ s, exec i s = .next (s.setReg q (v s))) : Instr.Completes i :=
  completes_of_regFrame hs he (fun s => regFrame_setReg s q (v s)) (.inr fun s => s.setReg_cpu_f q (v s))

/-- Of the loads and moves of a pair (R191, R192, R241, R242). -/
theorem completes_of_setPair {i : Instr} (p : Pair) (v : State → Word) (hs : ∀ s, storesOf s i = [])
    (he : ∀ s, exec i s = .next (s.setPair p (v s))) : Instr.Completes i :=
  completes_of_pairFrame hs he (fun s => pairFrame_setPair s p (v s)) (.inr fun s => s.setPair_cpu_f p (v s))

/-- Of the instructions that write `PC` and `SP` alone (R281 to R285, R288, R289). -/
theorem completes_of_setSp_setPc {i : Instr} (sp pc : State → Word) (hs : ∀ s, storesOf s i = [])
    (he : ∀ s, exec i s = .next ((s.setSp (sp s)).setPc (pc s))) : Instr.Completes i := fun s =>
  ⟨_, he s, (sameOutsideCpu_setCpu s _).outside (hs s), .inr rfl, .inl rfl, .inl rfl⟩

/-! ## Instructions that store -/

/-- Bus writes, after which the CPU has other flags at most. -/
theorem completes_of_stores {i : Instr} {ws : State → List (Word × Byte)} {c : State → Cpu}
    (hs : ∀ s, storesOf s i = ws s) (he : ∀ s, exec i s = .next { s.busWrites (ws s) with cpu := c s })
    (hm : ∀ s, (c s).halt = s.cpu.halt ∧ (c s).ime = s.cpu.ime)
    (hf : Instr.writesFlags i ∨ ∀ s, (c s).f = s.cpu.f) : Instr.Completes i := fun s =>
  ⟨_, he s, by rw [hs], hf.imp_right (· s), .inl (hm s).2, .inl (hm s).1⟩

theorem completes_of_storesByte {i : Instr} {a : State → Word} {v : State → Byte} (h : StoresByte i a v)
    (hs : ∀ s, storesOf s i = [(a s, v s)]) : Instr.Completes i := fun s => by
  obtain ⟨t, he, ⟨hout, -⟩, hcpu⟩ := h s
  exact ⟨t, he, by rw [hs]; exact hout, .inr (by rw [hcpu]), .inl (by rw [hcpu]), .inl (by rw [hcpu])⟩

/-- Of the instructions that read the byte at HL and write it back changed (R226, R228, R254, R274, R276). -/
theorem completes_of_setLoc_hlMem {i : Instr} (v : State → Byte) (f : State → Flags)
    (hs : ∀ s, storesOf s i = [(s.hl, v s)]) (he : ∀ s, exec i s = .next ((s.busWrite s.hl (v s)).setFlags (f s)))
    (hf : Instr.writesFlags i ∨ ∀ s, f s = s.cpu.f) : Instr.Completes i := fun s =>
  ⟨_, he s, by rw [hs]; rfl, hf.imp_right (· s), .inl (by simp), .inl (by simp)⟩

/-- Of the stores of A that move HL (R171, R172). -/
theorem completes_of_opStore_setHl {i : Instr} {w : State → Word} (hs : ∀ s, storesOf s i = [(s.hl, s.cpu.a)])
    (he : ∀ s, exec i s = .next ((opStore s.hl s.cpu.a s).setHl (w s))) : Instr.Completes i := fun s => by
  obtain ⟨-, -, -, hhalt, hime⟩ := cpuFrame_opStore_setHl s s.hl (w s) s.cpu.a
  exact ⟨_, he s, by rw [hs]; rfl, .inr (opStore_setHl_f s _ _ _), .inl hime, .inl hhalt⟩

/-! ## The families -/

theorem completes_ldRR (q r : Reg8) : Instr.Completes (Instr.ldRR q r) :=
  completes_of_setReg q (fun s => s.reg r) (fun _ => by cases q <;> cases r <;> rfl) (exec_ldRR q r)

theorem completes_ldRN (q : Reg8) (n : Byte) : Instr.Completes (Instr.ldRN q n) :=
  completes_of_setReg q (fun _ => n) (fun _ => by cases q <;> rfl) (exec_ldRN q n)

theorem completes_ldRHl (q : Reg8) : Instr.Completes (Instr.ldRHl q) :=
  completes_of_setReg q (fun s => s.busRead s.hl) (fun _ => by cases q <;> rfl) (exec_ldRHl q)

theorem completes_ldHlR (r : Reg8) : Instr.Completes (Instr.ldHlR r) := by
  obtain ⟨h, -⟩ := storeMemory
  obtain ⟨-, -, hstores⟩ := h r
  exact completes_of_storesByte hstores fun _ => by cases r <;> rfl

theorem completes_ldPairNN (p : Pair) (v : Word) : Instr.Completes (Instr.ldPairNN p v) :=
  completes_of_setPair p (fun _ => v) (fun _ => by cases p <;> rfl) (exec_ldPairNN p v)

theorem State.push16_eq_busWrites (s : State) (v : Word) :
    s.push16 v = { s.busWrites (storesOf.pushed s v) with cpu := { s.cpu with sp := s.cpu.sp - 2 } } := s.push16_eq v

theorem storesOf_push (p : StackPair) (s : State) : storesOf s (Instr.push p) = storesOf.pushed s (s.stackPair p) := by
  cases p <;> rfl

theorem completes_push (p : StackPair) : Instr.Completes (Instr.push p) :=
  completes_of_stores (c := fun s => { s.cpu with sp := s.cpu.sp - 2 }) (storesOf_push p)
    (fun s => by rw [exec_push, opPush, State.push16_eq_busWrites]) (fun _ => ⟨rfl, rfl⟩) (.inr fun _ => rfl)

theorem completes_pop (p : StackPair) : Instr.Completes (Instr.pop p) := fun s => by
  obtain ⟨-, -, h⟩ := popPair p
  obtain ⟨t, he, -, hf, -, hout, -, -, hhalt, hime⟩ := h s
  have hs : storesOf s (Instr.pop p) = [] := by cases p <;> rfl
  refine ⟨t, he, hout.outside hs, ?_, .inl hime, .inl hhalt⟩
  by_cases hp : p = .af
  · subst hp; simp [Instr.writesFlags, Instr.pop]
  · exact .inr (hf hp).2

theorem completes_aluR (op : AluOp) (r : Reg8) : Instr.Completes (Instr.aluR op r) :=
  completes_of_regFrame (fun _ => by cases op <;> cases r <;> rfl) (exec_aluR op r)
    (fun s => regFrame_opAlu op (s.reg r) s) (.inl (.inl ⟨op, r, rfl⟩))

theorem completes_aluHl (op : AluOp) : Instr.Completes (Instr.aluHl op) :=
  completes_of_regFrame (fun _ => by cases op <;> rfl) (exec_aluHl op)
    (fun s => regFrame_opAlu op (s.busRead s.hl) s) (.inl (.inr (.inl ⟨op, rfl⟩)))

theorem completes_aluN (op : AluOp) (n : Byte) : Instr.Completes (Instr.aluN op n) :=
  completes_of_regFrame (fun _ => by cases op <;> rfl) (exec_aluN op n)
    (fun s => regFrame_opAlu op n s) (.inl (.inr (.inr (.inl ⟨op, n, rfl⟩))))

theorem completes_incR (r : Reg8) : Instr.Completes (Instr.incR r) :=
  completes_of_regFrame (fun _ => by cases r <;> rfl) (exec_incR r) (fun s => regFrame_setReg_setFlags s r _ _)
    (.inl (.inr (.inr (.inr (.inl ⟨r, .inl rfl⟩)))))

theorem completes_decR (r : Reg8) : Instr.Completes (Instr.decR r) :=
  completes_of_regFrame (fun _ => by cases r <;> rfl) (exec_decR r) (fun s => regFrame_setReg_setFlags s r _ _)
    (.inl (.inr (.inr (.inr (.inl ⟨r, .inr rfl⟩)))))

theorem completes_addHl (p : Pair) : Instr.Completes (Instr.addHl p) := by
  have hf : ∃ p', Instr.addHl p = Instr.addHl p' := ⟨p, rfl⟩
  exact completes_of_pairFrame (fun _ => by cases p <;> rfl) (exec_addHl p) (pairFrame_opAddHl p)
    (.inl (by simp only [Instr.writesFlags, hf, true_or, or_true]))

theorem completes_incPair (p : Pair) : Instr.Completes (Instr.incPair p) :=
  completes_of_setPair p (fun s => s.pair p + 1) (fun _ => by cases p <;> rfl) (exec_incPair p)

theorem completes_decPair (p : Pair) : Instr.Completes (Instr.decPair p) :=
  completes_of_setPair p (fun s => s.pair p - 1) (fun _ => by cases p <;> rfl) (exec_decPair p)

theorem completes_jpCc (cc : Cond) (a : Word) : Instr.Completes (Instr.jpCc cc a) :=
  completes_of_setSp_setPc (fun s => s.cpu.sp) (fun s => if s.cpu.f.holds cc then a else s.cpu.pc)
    (fun _ => by cases cc <;> rfl) (fun s => by rw [exec_jpCc, opIf_setPc cc fun _ => a]; rfl)

theorem completes_jrCc (cc : Cond) (e : Byte) : Instr.Completes (Instr.jrCc cc e) :=
  completes_of_setSp_setPc (fun s => s.cpu.sp) (fun s => if s.cpu.f.holds cc then s.cpu.pc + sext16 e else s.cpu.pc)
    (fun _ => by cases cc <;> rfl) (fun s => by rw [exec_jrCc, opIf_opJr]; rfl)

theorem storesOf_callCc (cc : Cond) (a : Word) (s : State) :
    storesOf s (Instr.callCc cc a) = if s.cpu.f.holds cc then storesOf.pushed s s.cpu.pc else [] := by
  cases cc <;> rfl

theorem opCall_eq (a : Word) (s : State) : opCall a s =
    { s.busWrites (storesOf.pushed s s.cpu.pc) with cpu := { s.cpu with sp := s.cpu.sp - 2, pc := a } } := by
  rw [opCall, State.push16_eq_busWrites]; rfl

theorem runs_opCall {i : Instr} {s : State} (hs : storesOf s i = storesOf.pushed s s.cpu.pc) (a : Word) :
    Instr.Runs i s (opCall a s) := by
  rw [opCall_eq]
  exact ⟨by rw [hs], .inr rfl, .inl rfl, .inl rfl⟩

theorem runs_self {i : Instr} {s : State} (hs : storesOf s i = []) : Instr.Runs i s s :=
  ⟨by rw [hs]; rfl, .inr rfl, .inl rfl, .inl rfl⟩

theorem completes_callCc (cc : Cond) (a : Word) : Instr.Completes (Instr.callCc cc a) := fun s => by
  refine ⟨_, exec_callCc cc a s, ?_⟩
  have hs := storesOf_callCc cc a s
  rw [opIf]
  split
  · next hcc => exact runs_opCall (hs.trans (if_pos hcc)) a
  · next hcc => exact runs_self (hs.trans (if_neg hcc))

theorem completes_retCc (cc : Cond) : Instr.Completes (Instr.retCc cc) :=
  completes_of_setSp_setPc (fun s => if s.cpu.f.holds cc then s.cpu.sp + 2 else s.cpu.sp)
    (fun s => if s.cpu.f.holds cc then s.stackTop else s.cpu.pc)
    (fun _ => by cases cc <;> rfl) (fun s => by rw [exec_retCc, opIf]; split <;> rfl)

theorem completes_rst (y : RstIndex) : Instr.Completes (Instr.rst y) := fun s =>
  ⟨opRst y s, exec_rst y s, runs_opCall (by fin_cases y <;> rfl) _⟩

theorem completes_rotR (op : RotOp) (r : Reg8) : Instr.Completes (Instr.rotR op r) := by
  have hf : ∃ op' r', Instr.rotR op r = Instr.rotR op' r' := ⟨op, r, rfl⟩
  exact completes_of_regFrame (fun _ => by cases op <;> cases r <;> rfl) (exec_rotR op r)
    (fun s => regFrame_setReg_setFlags s r _ _) (.inl (by simp only [Instr.writesFlags, hf, true_or, or_true]))

theorem completes_rotHl (op : RotOp) : Instr.Completes (Instr.rotHl op) := by
  have hf : ∃ op', Instr.rotHl op = Instr.rotHl op' := ⟨op, rfl⟩
  exact completes_of_setLoc_hlMem _ _ (fun s => by cases op <;> rfl) (exec_rotHl op)
    (.inl (by simp only [Instr.writesFlags, hf, true_or, or_true]))

theorem completes_bitR (n : BitIndex) (r : Reg8) : Instr.Completes (Instr.bitR n r) := by
  have hf : ∃ n' r', Instr.bitR n r = Instr.bitR n' r' := ⟨n, r, rfl⟩
  exact completes_of_regFrame (fun _ => by fin_cases n <;> cases r <;> rfl) (exec_bitR n r)
    (fun s => regFrame_setFlags s _) (.inl (by simp only [Instr.writesFlags, hf, true_or, or_true]))

theorem completes_bitHl (n : BitIndex) : Instr.Completes (Instr.bitHl n) := by
  have hf : ∃ n', Instr.bitHl n = Instr.bitHl n' := ⟨n, rfl⟩
  exact completes_of_regFrame (fun _ => by fin_cases n <;> rfl) (exec_bitHl n)
    (fun s => regFrame_setFlags s _) (.inl (by simp only [Instr.writesFlags, hf, true_or, or_true]))

theorem completes_resR (n : BitIndex) (r : Reg8) : Instr.Completes (Instr.resR n r) :=
  completes_of_setReg r (fun s => resBit n (s.reg r)) (fun _ => by fin_cases n <;> cases r <;> rfl) (exec_resR n r)

theorem completes_setR (n : BitIndex) (r : Reg8) : Instr.Completes (Instr.setR n r) :=
  completes_of_setReg r (fun s => setBit n (s.reg r)) (fun _ => by fin_cases n <;> cases r <;> rfl) (exec_setR n r)

theorem completes_resHl (n : BitIndex) : Instr.Completes (Instr.resHl n) :=
  completes_of_storesByte (fun s => ⟨_, exec_resHl n s, storesOne_busWrite s s.hl _ _, s.busWrite_cpu s.hl _⟩)
    fun _ => by fin_cases n <;> rfl

theorem completes_setHl (n : BitIndex) : Instr.Completes (Instr.setHl n) :=
  completes_of_storesByte (fun s => ⟨_, exec_setHl n s, storesOne_busWrite s s.hl _ _, s.busWrite_cpu s.hl _⟩)
    fun _ => by fin_cases n <;> rfl

/-! ## Every whole instruction -/

theorem runs_of_storesTwo {i : Instr} {s t : State} {a b : Word} {v w : Byte} (hs : storesOf s i = [(a, v), (b, w)])
    (h : StoresTwo a v b w s t) (hcpu : t.cpu = s.cpu) : Instr.Runs i s t :=
  ⟨by rw [hs]; exact h.1, .inr (by rw [hcpu]), .inl (by rw [hcpu]), .inl (by rw [hcpu])⟩

/-- Every whole instruction completes as `Instr.Runs` says, but for the undefined opcodes, which UNDEF_POLICY may
stop (R305). -/
theorem undefined_or_completes {i : Instr} (hi : i.wellFormed = true) :
    i ∈ Instr.undefinedRows ∨ Instr.Completes i := by
  obtain ⟨-, hmemHlD8, hmemBcA, hmemDeA, hmemA16A, hmemA8A, hmemCA⟩ := storeMemory
  apply Instr.wellFormed_cases (P := fun i => i ∈ Instr.undefinedRows ∨ Instr.Completes i) (hi := hi)
  case undefined => exact fun i h => .inl h
  case ldRR => exact fun q r => .inr (completes_ldRR q r)
  case ldRN => exact fun q n => .inr (completes_ldRN q n)
  case ldRHl => exact fun q => .inr (completes_ldRHl q)
  case ldHlR => exact fun r => .inr (completes_ldHlR r)
  case ldPairNN => exact fun p v => .inr (completes_ldPairNN p v)
  case push => exact fun p => .inr (completes_push p)
  case pop => exact fun p => .inr (completes_pop p)
  case aluR => exact fun op r => .inr (completes_aluR op r)
  case aluHl => exact fun op => .inr (completes_aluHl op)
  case aluN => exact fun op n => .inr (completes_aluN op n)
  case incR => exact fun r => .inr (completes_incR r)
  case decR => exact fun r => .inr (completes_decR r)
  case addHl => exact fun p => .inr (completes_addHl p)
  case incPair => exact fun p => .inr (completes_incPair p)
  case decPair => exact fun p => .inr (completes_decPair p)
  case jpCc => exact fun cc a => .inr (completes_jpCc cc a)
  case jrCc => exact fun cc e => .inr (completes_jrCc cc e)
  case callCc => exact fun cc a => .inr (completes_callCc cc a)
  case retCc => exact fun cc => .inr (completes_retCc cc)
  case rst => exact fun y => .inr (completes_rst y)
  case rotR => exact fun op r => .inr (completes_rotR op r)
  case rotHl => exact fun op => .inr (completes_rotHl op)
  case bitR => exact fun n r => .inr (completes_bitR n r)
  case bitHl => exact fun n => .inr (completes_bitHl n)
  case resR => exact fun n r => .inr (completes_resR n r)
  case resHl => exact fun n => .inr (completes_resHl n)
  case setR => exact fun n r => .inr (completes_setR n r)
  case setHl => exact fun n => .inr (completes_setHl n)
  case ldAMemBc => exact .inr (completes_of_setReg .a (fun s => s.busRead s.bc) (fun _ => rfl) fun _ => rfl)
  case ldAMemDe => exact .inr (completes_of_setReg .a (fun s => s.busRead s.de) (fun _ => rfl) fun _ => rfl)
  case ldAMemA16 => exact fun a => .inr (completes_of_setReg .a (fun s => s.busRead a) (fun _ => rfl) fun _ => rfl)
  case ldhAMemA8 =>
    exact fun n => .inr (completes_of_setReg .a (fun s => s.busRead (highPage n)) (fun _ => rfl) fun _ => rfl)
  case ldAMemC =>
    exact .inr (completes_of_setReg .a (fun s => s.busRead (highPage s.cpu.c)) (fun _ => rfl) fun _ => rfl)
  case ldAMemHlInc =>
    exact .inr (completes_of_regFrame (fun _ => rfl) (fun _ => rfl) (fun s => regFrame_opLoad_setHl s s.hl _)
      (.inr fun _ => rfl))
  case ldAMemHlDec =>
    exact .inr (completes_of_regFrame (fun _ => rfl) (fun _ => rfl) (fun s => regFrame_opLoad_setHl s s.hl _)
      (.inr fun _ => rfl))
  case ldMemHlD8 => exact fun n => .inr (completes_of_storesByte (hmemHlD8 n).2.2 fun _ => rfl)
  case ldMemBcA => exact .inr (completes_of_storesByte hmemBcA.2.2 fun _ => rfl)
  case ldMemDeA => exact .inr (completes_of_storesByte hmemDeA.2.2 fun _ => rfl)
  case ldMemA16A => exact fun a => .inr (completes_of_storesByte (hmemA16A a).2.2 fun _ => rfl)
  case ldhMemA8A => exact fun n => .inr (completes_of_storesByte (hmemA8A n).2.2 fun _ => rfl)
  case ldMemCA => exact .inr (completes_of_storesByte hmemCA.2.2 fun _ => rfl)
  case ldMemHlIncA => exact .inr (completes_of_opStore_setHl (fun _ => rfl) fun _ => rfl)
  case ldMemHlDecA => exact .inr (completes_of_opStore_setHl (fun _ => rfl) fun _ => rfl)
  case ldMemA16Sp =>
    exact fun a => .inr fun s =>
      ⟨opStoreSp a s, rfl, runs_of_storesTwo rfl (storesTwo_busWrite s a (a + 1) _ _ _) (opStoreSp_cpu a s)⟩
  case incMemHl =>
    exact .inr (completes_of_setLoc_hlMem _ _ (fun _ => rfl) (fun _ => rfl) (.inl (by simp [Instr.writesFlags])))
  case decMemHl =>
    exact .inr (completes_of_setLoc_hlMem _ _ (fun _ => rfl) (fun _ => rfl) (.inl (by simp [Instr.writesFlags])))
  case ldSpHl => exact .inr (completes_of_setPair .sp (fun s => s.hl) (fun _ => rfl) fun _ => rfl)
  case ldHlSpE8 =>
    exact fun e => .inr (completes_of_pairFrame (fun _ => rfl) (fun _ => rfl)
      (fun s => (pairFrame_setPair s .hl _).setFlags _) (.inl (by simp [Instr.writesFlags])))
  case addSpE8 =>
    exact fun e => .inr (completes_of_pairFrame (fun _ => rfl) (fun _ => rfl)
      (fun s => (pairFrame_setPair s .sp _).setFlags _) (.inl (by simp [Instr.writesFlags])))
  case rlca | rrca | rla | rra =>
    exact .inr (completes_of_regFrame (fun _ => rfl) (fun _ => rfl) (regFrame_opRotA _)
      (.inl (by simp [Instr.writesFlags])))
  case daa | cpl =>
    exact .inr (completes_of_regFrame (fun _ => rfl) (fun _ => rfl) (fun s => regFrame_setReg_setFlags s .a _ _)
      (.inl (by simp [Instr.writesFlags])))
  case scf | ccf =>
    exact .inr (completes_of_regFrame (fun _ => rfl) (fun _ => rfl) (fun s => regFrame_setFlags s _)
      (.inl (by simp [Instr.writesFlags])))
  case jpA16 =>
    exact fun a => .inr (completes_of_setSp_setPc (fun s => s.cpu.sp) (fun _ => a) (fun _ => rfl) fun _ => rfl)
  case jpHl => exact .inr (completes_of_setSp_setPc (fun s => s.cpu.sp) (fun s => s.hl) (fun _ => rfl) fun _ => rfl)
  case jrE8 =>
    exact fun e => .inr (completes_of_setSp_setPc (fun s => s.cpu.sp) (fun s => relTarget s.cpu.pc e) (fun _ => rfl)
      fun _ => rfl)
  case callA16 => exact fun a => .inr fun s => ⟨opCall a s, rfl, runs_opCall rfl a⟩
  case ret =>
    exact .inr (completes_of_setSp_setPc (fun s => s.cpu.sp + 2) (fun s => s.stackTop) (fun _ => rfl) fun _ => rfl)
  case reti => exact .inr fun s => ⟨_, rfl, rfl, .inr rfl, .inr (by simp), .inl rfl⟩
  case nop => exact .inr fun s => ⟨s, rfl, runs_self rfl⟩
  case stop => exact fun n => .inr fun s => ⟨s, rfl, runs_self rfl⟩
  case halt => exact .inr fun s => ⟨s.setHalt true, rfl, rfl, .inr rfl, .inl rfl, .inr rfl⟩
  case di => exact .inr fun s => ⟨s.setIme false, rfl, rfl, .inr rfl, .inr (by simp), .inl rfl⟩
  case ei => exact .inr fun s => ⟨s.setIme true, rfl, rfl, .inr rfl, .inr (by simp), .inl rfl⟩

end Sys2Proof.Machine
end

section
/-! # Instructions as a whole (20_memory.md R70, R73; 10_state.md R25, R26; 46_system.md R301 to R305)

`Instr.Runs` of every run, and what follows from it for bus writes, flags, `ime` and `halt`. -/

namespace Sys2Proof.Machine

/-! ## The undefined opcodes -/

theorem opUndefined_nop {s : State} (h : s.params.undefPolicy = .nop) : opUndefined s = .next s := by
  simp only [opUndefined, h]

theorem opUndefined_stuck {s : State} (h : s.params.undefPolicy = .stuck) : opUndefined s = .fault .undefinedOpcode := by
  simp only [opUndefined, h]

theorem hasCost_undefined {i : Instr} (h : i ∈ Instr.undefinedRows) : HasCost i 4 := by
  simp only [Instr.undefinedRows, List.mem_cons, List.not_mem_nil, or_false] at h
  rcases h with rfl | rfl | rfl | rfl | rfl | rfl | rfl | rfl | rfl | rfl | rfl <;> exact hasCost_of_encode rfl rfl rfl

theorem storesOf_undefined {i : Instr} (h : i ∈ Instr.undefinedRows) (s : State) : storesOf s i = [] := by
  simp only [Instr.undefinedRows, List.mem_cons, List.not_mem_nil, or_false] at h
  rcases h with rfl | rfl | rfl | rfl | rfl | rfl | rfl | rfl | rfl | rfl | rfl <;> rfl

/-- Settles O39: all eleven are `opUndefined`, which answers by UNDEF_POLICY. -/
theorem undefinedOpcodes : Obligations.UndefinedOpcodes :=
  ⟨rfl, fun _ hi => ⟨hasCost_undefined hi, fun s =>
    ⟨fun h => (exec_undefined hi s).trans (opUndefined_nop h),
      fun h => (exec_undefined hi s).trans (opUndefined_stuck h)⟩⟩⟩

/-- Settles O38: `HALT` and `EI` are one write to their bit, `STOP` answers the state it was given. -/
theorem haltEiStop : Obligations.HaltEiStop :=
  ⟨rfl, hasCost_of_encode rfl rfl rfl, rfl, hasCost_of_encode rfl rfl rfl,
    fun _ => ⟨rfl, hasCost_of_encode rfl rfl rfl⟩, fun _ => ⟨rfl, rfl, fun _ => rfl⟩⟩

/-! ## Every run -/

/-- An instruction that completed did what `Instr.Runs` says. -/
theorem runs_of_exec {i : Instr} {s t : State} (hi : i.wellFormed = true) (h : exec i s = .next t) :
    Instr.Runs i s t := by
  rcases undefined_or_completes hi with hundef | hcompletes
  · rw [exec_undefined hundef] at h
    cases hpolicy : s.params.undefPolicy with
    | nop =>
      rw [opUndefined_nop hpolicy] at h
      cases h
      exact runs_self (storesOf_undefined hundef s)
    | stuck => rw [opUndefined_stuck hpolicy] at h; cases h
  · obtain ⟨u, hu, hruns⟩ := hcompletes s
    rw [hu] at h
    cases h
    exact hruns

/-- Settles O45: the bus writes of `Instr.Runs`. -/
theorem onlyBusWrites : Obligations.OnlyBusWrites := fun _ _ _ hi h => (runs_of_exec hi h).outside

/-- Settles O48: the flags, `ime` and `halt` of `Instr.Runs`; taking an interrupt pushes `PC`, which is no write to `F`. -/
theorem flagsAndModeBits : Obligations.FlagsAndModeBits := by
  refine ⟨fun i s t hi h => ?_, fun s i => by rw [State.serviceInterrupt_eq]; rfl⟩
  obtain ⟨-, hflags, hime, hhalt⟩ := runs_of_exec hi h
  exact ⟨hflags.resolve_left, hime.resolve_left, hhalt.resolve_left⟩

/-- Settles O46: region by region of the address written. -/
theorem busWriteFrame : Obligations.BusWriteFrame := fun s _ _ v h => s.busRead_busWrite_of_not_touches v h

end Sys2Proof.Machine
end

section
/-! # Reading back what was written (20_memory.md R72, R73, R80, R81, R92, R96; 41_load16.md R190)

A byte of plain RAM is read back, one of the echo too; an address with no owner does nothing; DMA copies a page, one
byte after the other; and a word pushed on plain RAM is the word on top of the stack. -/

namespace Sys2Proof.Machine

/-! ## Plain RAM and the echo -/

theorem Cartridge.ramRead_ramWrite_same {c : Cartridge} (hwf : Memory.wf c.xram = true) {a : Nat}
    (h : c.ramOffset a ≠ none) (v : Byte) : (c.ramWrite a v).ramRead a = v := by
  obtain ⟨o, ho⟩ := Option.ne_none_iff_exists'.1 h
  have ho' : Cartridge.ramOffset { c with xram := Memory.write c.xram o v } a = some o := ho
  simp only [Cartridge.ramWrite, ho, Cartridge.ramRead, ho']
  exact Memory.read_write_same hwf o v

theorem State.busRead_busWrite_same {s : State} (hwf : State.wf s = true) {a : Word} (h : s.plainRam a) (v : Byte) :
    (s.busWrite a v).busRead a = v := by
  obtain ⟨hcart, hppu, hwram, hhram, -⟩ := State.wf_iff.1 hwf
  obtain ⟨-, -, -, hxram, -⟩ := Cartridge.wf_iff.1 hcart
  rcases h with ⟨h1, h2⟩ | ⟨h1, h2, hmapped⟩ | ⟨h1, h2⟩ | ⟨h1, h2⟩
  · rw [State.busWrite_vram h1 h2, State.busRead_vram h1 h2]
    exact Memory.read_write_same (Memory.sized_wf (Ppu.wf_vram hppu)) _ v
  · rw [State.busWrite_xram h1 h2, State.busRead_xram h1 h2]
    exact Cartridge.ramRead_ramWrite_same (Memory.sized_wf hxram) hmapped v
  · rcases Nat.lt_or_ge 0xDFFF a.toNat with h3 | h3
    · rcases Nat.lt_or_ge 0xFDFF a.toNat with h4 | h4
      · rw [State.busWrite_oam h4 h2, State.busRead_oam h4 h2]
        exact Memory.read_write_same (Memory.sized_wf (Ppu.wf_oam hppu)) _ v
      · rw [State.busWrite_echo h3 h4, State.busRead_echo h3 h4]
        exact Memory.read_write_same (Memory.sized_wf hwram) _ v
    · rw [State.busWrite_wram h1 h3, State.busRead_wram h1 h3]
      exact Memory.read_write_same (Memory.sized_wf hwram) _ v
  · rw [State.busWrite_hram h1 h2, State.busRead_hram h1 h2]
    exact Memory.read_write_same (Memory.sized_wf hhram) _ v

theorem toNat_ofNat_sixteen {n : Nat} (h : n < 0x10000) : (BitVec.ofNat 16 n).toNat = n := by
  rw [BitVec.toNat_ofNat]; omega

/-- The echo of an offset of work RAM is the byte at that offset (R80). -/
theorem State.busRead_echo_eq (s : State) {k : Nat} (hk : k < 0x1E00) :
    s.busRead (BitVec.ofNat 16 (0xE000 + k)) = s.busRead (BitVec.ofNat 16 (0xC000 + k)) := by
  have hecho := toNat_ofNat_sixteen (n := 0xE000 + k) (by omega)
  have hown := toNat_ofNat_sixteen (n := 0xC000 + k) (by omega)
  rw [State.busRead_echo (by omega) (by omega), State.busRead_wram (by omega) (by omega), hecho, hown,
    show 0xE000 + k - 0x2000 - 0xC000 = 0xC000 + k - 0xC000 by omega]

theorem State.busWrite_echo_eq (s : State) {k : Nat} (hk : k < 0x1E00) (v : Byte) :
    s.busWrite (BitVec.ofNat 16 (0xE000 + k)) v = s.busWrite (BitVec.ofNat 16 (0xC000 + k)) v := by
  have hecho := toNat_ofNat_sixteen (n := 0xE000 + k) (by omega)
  have hown := toNat_ofNat_sixteen (n := 0xC000 + k) (by omega)
  rw [State.busWrite_echo (by omega) (by omega), State.busWrite_wram (by omega) (by omega), hecho, hown,
    show 0xE000 + k - 0x2000 - 0xC000 = 0xC000 + k - 0xC000 by omega]

/-! ## Addresses with no owner -/

theorem ioRegAt_eq_none {a : Nat} (h : ∀ r : IoReg, r.addr ≠ a) : ioRegAt a = none := by
  rw [ioRegAt, List.find?_eq_none]
  exact fun r _ => by simpa using h r

/-- Between the registers of FF00 to FF7F there is none (R92). -/
theorem ioRegAt_gap {a : Nat} (h : a = 0xFF03 ∨ (0xFF08 ≤ a ∧ a ≤ 0xFF0E) ∨ (0xFF10 ≤ a ∧ a ≤ 0xFF3F) ∨
    (0xFF4C ≤ a ∧ a ≤ 0xFF7F)) : ioRegAt a = none :=
  ioRegAt_eq_none fun r => by cases r <;> simp only [IoReg.addr] <;> omega

theorem State.io_of_none {a : Word} (h1 : 0xFF00 ≤ a.toNat) (h2 : a.toNat ≤ 0xFF7F) (h : ioRegAt a.toNat = none)
    (s : State) (v : Byte) : s.busRead a = 0xFF ∧ s.busWrite a v = s := by
  rw [State.busRead_io h1 h2, State.busWrite_io h1 h2]
  simp only [State.ioRead, State.ioWrite, h, and_self]

/-- Settles O53: the regions of plain RAM, the two addresses of a byte of work RAM, and the gaps. -/
theorem ramAndEcho : Obligations.RamAndEcho := by
  refine ⟨fun s a v hwf h => State.busRead_busWrite_same hwf h v,
    fun s k v hk => ⟨s.busRead_echo_eq hk, s.busWrite_echo_eq hk v⟩, fun s a v h => ?_⟩
  rcases h with ⟨h1, h2⟩ | h
  · exact ⟨State.busRead_unusable h1 h2, State.busWrite_unusable h1 h2⟩
  · exact State.io_of_none (by omega) (by omega) (ioRegAt_gap h) s v

/-! ## OAM DMA -/

theorem State.busRead_setOam_same {s : State} (hwf : State.wf s = true) {i : Nat} (hi : i < 160) (v : Byte) :
    (s.setOam i v).busRead (BitVec.ofNat 16 (0xFE00 + i)) = v := by
  have ha := toNat_ofNat_sixteen (n := 0xFE00 + i) (by omega)
  obtain ⟨-, hppu, -⟩ := State.wf_iff.1 hwf
  rw [State.busRead_oam (by omega) (by omega), ha, Nat.add_sub_cancel_left]
  exact Memory.read_write_same (Memory.sized_wf (Ppu.wf_oam hppu)) i v

theorem State.busRead_setOam_other (s : State) {i : Nat} {x : Word} (h : x.toNat ≠ 0xFE00 + i) (v : Byte) :
    (s.setOam i v).busRead x = s.busRead x := by
  apply State.busRead_congr
  case oam => exact fun _ _ => Memory.read_write_other _ v (by omega)
  all_goals intros; rfl

/-- The first `n` bytes of the copy (R96). -/
def State.oamDmaFirst (s : State) (v : Byte) (n : Nat) : State :=
  (List.range n).foldl (fun t i => t.setOam i (t.busRead (BitVec.ofNat 16 (v.toNat * 0x100 + i)))) s

theorem State.oamDmaFirst_succ (s : State) (v : Byte) (n : Nat) :
    s.oamDmaFirst v (n + 1) = (s.oamDmaFirst v n).setOam n
      ((s.oamDmaFirst v n).busRead (BitVec.ofNat 16 (v.toNat * 0x100 + n))) := by
  simp only [State.oamDmaFirst, List.range_succ, List.foldl_append, List.foldl_cons, List.foldl_nil]

/-- After `n` bytes OAM holds them and everything else reads as before. A byte of OAM that is still to be copied is
not yet overwritten, even where the page copied is OAM's own. -/
theorem State.busRead_oamDmaFirst {s : State} (hwf : State.wf s = true) (v : Byte) {n : Nat} (hn : n ≤ 160) :
    State.wf (s.oamDmaFirst v n) = true ∧
    (∀ x : Word, (∀ i, i < n → x.toNat ≠ 0xFE00 + i) → (s.oamDmaFirst v n).busRead x = s.busRead x) ∧
    ∀ i, i < n → (s.oamDmaFirst v n).busRead (BitVec.ofNat 16 (0xFE00 + i)) =
      s.busRead (BitVec.ofNat 16 (v.toNat * 0x100 + i)) := by
  induction n with
  | zero => exact ⟨hwf, fun _ _ => rfl, fun i hi => absurd hi (Nat.not_lt_zero i)⟩
  | succ n ih =>
    obtain ⟨hwfn, hother, hcopied⟩ := ih (by omega)
    have hv := v.isLt
    have hsource := toNat_ofNat_sixteen (n := v.toNat * 0x100 + n) (by omega)
    rw [State.oamDmaFirst_succ, hother _ (fun i hi => by omega)]
    refine ⟨State.setOam_wf hwfn (by omega) _, fun x hx => ?_, fun i hi => ?_⟩
    · rw [State.busRead_setOam_other _ (hx n (by omega)), hother x fun i hi => hx i (by omega)]
    · rcases Nat.lt_succ_iff_lt_or_eq.1 hi with hlt | rfl
      · have ha := toNat_ofNat_sixteen (n := 0xFE00 + i) (by omega)
        rw [State.busRead_setOam_other _ (by omega), hcopied i hlt]
      · exact State.busRead_setOam_same hwfn (by omega) _

theorem State.busWrite_dma (s : State) (v : Byte) : s.busWrite 0xFF46 v = s.oamDma v := rfl

/-- Settles O56: the copy is that of all 160 bytes. -/
theorem oamDma : Obligations.OamDma := by
  intro s v hwf t
  have ht : t = s.oamDma v := s.busWrite_dma v
  obtain ⟨-, -, hcopied⟩ := State.busRead_oamDmaFirst hwf v (Nat.le_refl 160)
  exact ⟨fun i hi => by rw [ht]; exact hcopied i hi, by rw [ht]; exact s.oamDma_eq v⟩

/-! ## The stack -/

theorem Cartridge.ramOffset_congr {c d : Cartridge} (hk : d.controller = c.controller) (hl : d.ramLen = c.ramLen) :
    d.ramOffset = c.ramOffset := by
  funext a
  simp only [Cartridge.ramOffset, hk, hl]

/-- A write outside ROM switches no bank. -/
theorem State.busWrite_controller (s : State) {a : Word} (ha : 0x8000 ≤ a.toNat) (v : Byte) :
    (s.busWrite a v).cart.controller = s.cart.controller := by
  apply State.busWrite_cases (P := fun t => t.cart.controller = s.cart.controller)
  case rom => exact fun h => absurd h (by omega)
  case xram =>
    obtain ⟨-, -, -, hcontroller⟩ := Cartridge.ramWrite_fixed s.cart a.toNat v
    exact fun _ _ => hcontroller
  case io => exact fun _ _ => congrArg Cartridge.controller (s.ioWrite_fixed a.toNat v).1
  all_goals intros; rfl

theorem State.plainRam_ge {s : State} {a : Word} (h : s.plainRam a) : 0x8000 ≤ a.toNat := by
  rcases h with ⟨h, -⟩ | ⟨h, -⟩ | ⟨h, -⟩ | ⟨h, -⟩ <;> omega

theorem State.plainRam_busWrite {s : State} {a b : Word} (ha : s.plainRam a) (hb : s.plainRam b) (v : Byte) :
    (s.busWrite a v).plainRam b := by
  obtain ⟨-, -, hlen⟩ := s.busWrite_cart_fixed a v
  unfold State.plainRam
  rw [Cartridge.ramOffset_congr (s.busWrite_controller (State.plainRam_ge ha) v) hlen]
  exact hb

/-- External RAM is at least two bytes long where there is any, so neighbours are not mapped to one byte (R101). -/
theorem Cartridge.ramOffset_succ_ne {c : Cartridge} (hwf : c.wf = true) {a : Nat} (ha : 0xA000 ≤ a)
    (h : c.ramOffset a ≠ none) : c.ramOffset (a + 1) ≠ c.ramOffset a := by
  obtain ⟨-, hlen, -⟩ := Cartridge.wf_iff.1 hwf
  simp only [List.contains_iff_mem, List.mem_cons, List.not_mem_nil, or_false] at hlen
  cases hk : c.controller with
  | mbc0 => simp only [Cartridge.ramOffset, hk, ne_eq, not_true_eq_false] at h
  | mbc1 r =>
    simp only [Cartridge.ramOffset, hk] at h ⊢
    generalize (if r.bankingMode then r.ramBank.toNat else 0) * 0x2000 = bank at h ⊢
    by_cases hon : (r.ramEnable && c.ramLen != 0) = true
    · rw [if_pos hon, if_pos hon, ne_eq, Option.some.injEq]
      rcases hlen with hlen | hlen | hlen | hlen <;> rw [hlen] at hon ⊢
      · simp at hon
      all_goals omega
    · exact absurd (if_neg hon) h

/-- A write to plain RAM does not reach the next address. -/
theorem State.not_touches_succ {s : State} (hwf : State.wf s = true) {a b : Word} (hab : b.toNat = a.toNat + 1)
    (ha : s.plainRam a) : ¬ s.touches a b := by
  obtain ⟨hcart, -⟩ := State.wf_iff.1 hwf
  simp only [State.touches]
  rcases ha with ⟨h1, h2⟩ | ⟨h1, h2, hmapped⟩ | ⟨h1, h2⟩ | ⟨h1, h2⟩
  case inr.inl =>
    iterate 2 rw [if_neg (by omega)]
    rw [if_pos h2, hab]
    exact fun htouches => Cartridge.ramOffset_succ_ne hcart h1 hmapped htouches.2.2
  all_goals split_ifs <;> omega

/-- The word pushed on two bytes of plain RAM is the word on top of the stack (R190). -/
theorem State.stackTop_push16 {s : State} (hwf : State.wf s = true) (h1 : s.plainRam (s.cpu.sp - 1))
    (h2 : s.plainRam (s.cpu.sp - 2)) (v : Word) : (s.push16 v).stackTop = v := by
  have hsp := State.plainRam_ge h2
  have hsp1 := State.plainRam_ge h1
  have hnext : (s.cpu.sp - 1).toNat = (s.cpu.sp - 2).toNat + 1 := by bv_omega
  have hwf1 := State.busWrite_wf hwf (s.cpu.sp - 1) (hiByte v)
  have h12 := State.plainRam_busWrite h1 h2 (hiByte v)
  have hlow : (s.push16 v).busRead (s.cpu.sp - 2) = loByte v := State.busRead_busWrite_same hwf1 h12 _
  have hhigh : (s.push16 v).busRead (s.cpu.sp - 1) = hiByte v :=
    calc (s.push16 v).busRead (s.cpu.sp - 1)
      _ = (s.busWrite (s.cpu.sp - 1) (hiByte v)).busRead (s.cpu.sp - 1) :=
        State.busRead_busWrite_of_not_touches _ _
          (State.not_touches_succ hwf1 hnext h12)
      _ = hiByte v := State.busRead_busWrite_same hwf h1 _
  have hnext' : s.cpu.sp - 2 + 1 = s.cpu.sp - 1 := by bv_omega
  rw [State.stackTop, State.push16_cpu]
  simp only [hnext', hlow, hhigh, join_hiByte_loByte]

/-- A stack pair is held in the CPU alone. -/
theorem State.stackPair_of_cpu_eq {s t : State} (h : t.cpu = s.cpu) (p : StackPair) : t.stackPair p = s.stackPair p := by
  cases p <;> simp only [State.stackPair, State.bc, State.de, State.hl, h]

/-- Writing to a pair what it already holds changes no register (R22). -/
theorem State.setStackPair_stackPair_cpu (s : State) (p : StackPair) : (s.setStackPair p (s.stackPair p)).cpu = s.cpu := by
  cases p <;> simp [State.setStackPair, State.stackPair, State.setBc, State.setDe, State.setHl, State.bc, State.de, State.hl]

/-- Settles O35: the word on top is the one pushed, and SP moves down and up by 2. -/
theorem popAfterPush : Obligations.PopAfterPush := by
  intro p s t u hwf h1 h2 hpush hpop
  have ht : t = s.push16 (s.stackPair p) := by rw [exec_push] at hpush; cases hpush; rfl
  have hu : u = opPop p t := by rw [exec_pop] at hpop; cases hpop; rfl
  have htop : t.stackTop = s.stackPair p := by rw [ht]; exact State.stackTop_push16 hwf h1 h2 _
  have hback : (t.setSp (t.cpu.sp + 2)).cpu = s.cpu := by
    rw [ht, State.setSp, State.push16_cpu]
    simp only [BitVec.sub_add_cancel]
  have hcpu : u.cpu = s.cpu := by
    rw [hu, opPop_eq, htop, ← State.stackPair_of_cpu_eq hback p, State.setStackPair_stackPair_cpu, hback]
  exact ⟨hcpu, State.stackPair_of_cpu_eq hcpu p⟩

/-- Settles O36: the same with `PC` pushed and popped. -/
theorem returnAfterCall : Obligations.ReturnAfterCall := by
  intro a s t u hwf h1 h2 hcall hret
  have ht : t = (s.push16 s.cpu.pc).setPc a := by cases hcall; rfl
  have htop : t.stackTop = s.cpu.pc := by rw [ht]; exact State.stackTop_push16 hwf h1 h2 _
  have hu : u = opRet t := by cases hret; rfl
  have hcpu : t.cpu = { s.cpu with sp := s.cpu.sp - 2, pc := a } := by rw [ht]; exact opCall_cpu a s
  refine ⟨by rw [hcpu], ?_⟩
  rw [hu, opRet_eq, htop, hcpu]
  simp only [BitVec.sub_add_cancel]

end Sys2Proof.Machine
end

section
/-! # I/O registers and the cartridge on the bus (10_state.md R27 to R44; 20_memory.md R97, R103, R104, R109 to R111)

The bus at the address of a register is `ioRegRead` and `ioRegWrite` of it. In the cartridge ranges it is a byte of
the image or of external RAM at the offset the bank registers give. -/

namespace Sys2Proof.Machine

/-! ## Registers -/

theorem State.busRead_ioReg (s : State) (r : IoReg) : s.busRead (BitVec.ofNat 16 r.addr) = s.ioRegRead r := by
  cases r <;> rfl

theorem State.busWrite_ioReg (s : State) (r : IoReg) (v : Byte) :
    s.busWrite (BitVec.ofNat 16 r.addr) v = s.ioRegWrite r v := by
  cases r <;> rfl

/-- The registers that hold all eight bits written (R29, R32, R33, R36, R38, R39, R40, R42, R43). -/
def IoReg.plain : List IoReg := [.sb, .tima, .tma, .lcdc, .scy, .scx, .lyc, .bgp, .obp0, .obp1, .wy, .wx]

theorem State.ioRegRead_ioRegWrite_plain (s : State) {r : IoReg} (h : r ∈ IoReg.plain) (v : Byte) :
    (s.ioRegWrite r v).ioRegRead r = v := by
  simp only [IoReg.plain, List.mem_cons, List.not_mem_nil, or_false] at h
  rcases h with rfl | rfl | rfl | rfl | rfl | rfl | rfl | rfl | rfl | rfl | rfl | rfl <;> rfl

/-- Cut to three bits and back to eight (R34). -/
theorem setWidth_three (v : Byte) : (v.setWidth 3).setWidth 8 = v &&& 0x07 := by
  revert v; decide

/-- Cut to five bits and back to eight (R35, R44). -/
theorem setWidth_five (v : Byte) : (v.setWidth 5).setWidth 8 = v &&& 0x1F := by
  revert v; decide

/-- A write to STAT leaves its three low bits and bit 7, which is absent (R37). -/
theorem stat_write (x : BitVec 7) (v : Byte) :
    ((x &&& 0x07) ||| (v.setWidth 7 &&& 0x78)).setWidth 8 = (x.setWidth 8 &&& 0x07) ||| (v &&& 0x78) := by
  ext i hi
  interval_cases i <;> simp

/-! ## The keys -/

theorem rowBits_getLsbD (b0 b1 b2 b3 : Bool) (j : Fin 4) :
    (rowBits b0 b1 b2 b3).getLsbD j = !([b0, b1, b2, b3][j]) := by
  revert b0 b1 b2 b3 j; decide

/-- The four low bits of `P1`: a key of a row that is not selected does not show (R28). -/
def Joypad.lowBits (j : Joypad) : BitVec 4 :=
  0xF#4 &&& (if j.sel.getLsbD 1 then 0xF#4 else rowBits j.cur.a j.cur.b j.cur.select j.cur.start) &&&
    (if j.sel.getLsbD 0 then 0xF#4 else rowBits j.cur.right j.cur.left j.cur.up j.cur.down)

theorem Joypad.read_eq (j : Joypad) : j.read = 0#2 ++ j.sel ++ j.lowBits := rfl

theorem Joypad.read_toNat_div (j : Joypad) : j.read.toNat / 16 = j.sel.toNat := by
  have hlow := j.lowBits.isLt
  rw [Joypad.read_eq, BitVec.toNat_append, ← Nat.shiftLeft_add_eq_or_of_lt hlow, Nat.shiftLeft_eq, BitVec.toNat_append]
  simp
  omega

theorem Joypad.read_getLsbD (j : Joypad) (k : Fin 4) :
    j.read.getLsbD k = !((!j.sel.getLsbD 1 && [j.cur.a, j.cur.b, j.cur.select, j.cur.start][k]) ||
      (!j.sel.getLsbD 0 && [j.cur.right, j.cur.left, j.cur.up, j.cur.down][k])) := by
  have hread : j.read.getLsbD k = j.lowBits.getLsbD k := by
    rw [Joypad.read_eq, BitVec.getLsbD_append, if_pos k.isLt]
  have hones : ∀ i : Fin 4, (0xF#4).getLsbD i = true := by decide
  rw [hread, Joypad.lowBits, BitVec.getLsbD_and, BitVec.getLsbD_and, hones k, Bool.true_and,
    apply_ite (BitVec.getLsbD · ↑k), apply_ite (BitVec.getLsbD · ↑k), hones k, rowBits_getLsbD, rowBits_getLsbD]
  cases j.sel.getLsbD 1 <;> cases j.sel.getLsbD 0 <;> simp

/-- Settles O52: what each register keeps of the byte, and for `P1` the key matrix. -/
theorem ioRegisters : Obligations.IoRegisters := by
  have hplain : ∀ (s : State) (v : Byte) (a : Word), a ∈ IoReg.plain.map (fun r => BitVec.ofNat 16 r.addr) →
      (s.busWrite a v).busRead a = v := fun s v a ha => by
    obtain ⟨r, hr, rfl⟩ := List.mem_map.1 ha
    rw [State.busWrite_ioReg, State.busRead_ioReg, State.ioRegRead_ioRegWrite_plain s hr]
  refine ⟨fun s v => ⟨hplain s v, rfl, setWidth_three v, setWidth_five v, setWidth_five v, stat_write s.ppu.stat v,
    rfl, rfl, rfl, rfl⟩, ?_⟩
  intro s v k p1
  have hp1 : p1 = Joypad.read { s.joypad with sel := v.extractLsb' 4 2 } := rfl
  rw [hp1, Joypad.read_toNat_div]
  refine ⟨?_, fun j => ?_⟩
  · rw [BitVec.extractLsb'_toNat, Nat.shiftRight_eq_div_pow]
  · rw [Joypad.read_getLsbD, BitVec.getLsbD_extractLsb', BitVec.getLsbD_extractLsb']
    rfl

/-! ## The cartridge -/

theorem Mbc1.romBank_eq (r : Mbc1) :
    r.romBank = r.romBankLo.toNat + (if r.bankingMode then 0 else 32 * r.ramBank.toNat) := by
  have hlo := r.romBankLo.isLt
  unfold Mbc1.romBank
  split
  · rfl
  · rw [BitVec.toNat_append, ← Nat.shiftLeft_add_eq_or_of_lt hlo, Nat.shiftLeft_eq]
    omega

theorem Cartridge.read_of_low (c : Cartridge) {a : Nat} (h : a ≤ 0x3FFF) : c.read a = Memory.read c.rom a := by
  cases hk : c.controller with
  | mbc0 => simp only [Cartridge.read, Cartridge.romOffset, hk]
  | mbc1 r => simp only [Cartridge.read, Cartridge.romOffset, hk, if_pos h]

theorem Cartridge.read_of_mbc0 {c : Cartridge} (hk : c.controller = .mbc0) (a : Nat) :
    c.read a = Memory.read c.rom a := by
  simp only [Cartridge.read, Cartridge.romOffset, hk]

theorem Cartridge.read_of_mbc1 {c : Cartridge} {r : Mbc1} (hk : c.controller = .mbc1 r) {a : Nat} (h : 0x4000 ≤ a) :
    c.read a = Memory.read c.rom ((r.romBank * 0x4000 + (a - 0x4000)) % c.romLen) := by
  simp only [Cartridge.read, Cartridge.romOffset, hk]
  rw [if_neg (by omega)]

theorem Cartridge.write_of_mbc0 {c : Cartridge} (hk : c.controller = .mbc0) (a : Nat) (v : Byte) : c.write a v = c := by
  simp only [Cartridge.write, hk]

/-- Where no byte of external RAM is mapped, reads give 0xFF and writes are lost (R104, R110, R111). -/
theorem State.xram_of_none {s : State} {a : Word} (h1 : 0xA000 ≤ a.toNat) (h2 : a.toNat ≤ 0xBFFF)
    (h : s.cart.ramOffset a.toNat = none) : s.busRead a = 0xFF ∧ ∀ v, s.busWrite a v = s := by
  refine ⟨?_, fun v => ?_⟩
  · rw [State.busRead_xram h1 h2, Cartridge.ramRead, h]
  · rw [State.busWrite_xram h1 h2, Cartridge.ramWrite, h]

theorem State.xram_of_some {s : State} {a : Word} {o : Nat} (h1 : 0xA000 ≤ a.toNat) (h2 : a.toNat ≤ 0xBFFF)
    (h : s.cart.ramOffset a.toNat = some o) : s.busRead a = Memory.read s.cart.xram o ∧
      ∀ v, s.busWrite a v = { s with cart := { s.cart with xram := Memory.write s.cart.xram o v } } := by
  refine ⟨?_, fun v => ?_⟩
  · rw [State.busRead_xram h1 h2, Cartridge.ramRead, h]
  · rw [State.busWrite_xram h1 h2, Cartridge.ramWrite, h]

theorem Cartridge.ramOffset_of_mbc1 {c : Cartridge} {r : Mbc1} (hk : c.controller = .mbc1 r) (a : Nat) :
    c.ramOffset a = if r.ramEnable && c.ramLen != 0 then
      some (((if r.bankingMode then r.ramBank.toNat else 0) * 0x2000 + (a - 0xA000)) % c.ramLen) else none := by
  simp only [Cartridge.ramOffset, hk]

/-- Settles O55: by the controller and, for external RAM, by whether a byte is mapped. -/
theorem bankedAccess : Obligations.BankedAccess := by
  intro s a
  refine ⟨fun h => ?_, fun hk => ⟨fun h => ⟨?_, fun v => ?_⟩, fun h1 h2 => ?_⟩, fun r hk => ⟨fun h1 h2 => ?_, ?_⟩⟩
  · rw [State.busRead_rom (by omega), Cartridge.read_of_low _ h]
  · rw [State.busRead_rom h, Cartridge.read_of_mbc0 hk]
  · rw [State.busWrite_rom h, Cartridge.write_of_mbc0 hk]
  · exact State.xram_of_none h1 h2 (by simp only [Cartridge.ramOffset, hk])
  · rw [State.busRead_rom h2, Cartridge.read_of_mbc1 hk h1, Mbc1.romBank_eq]
  · intro h1 h2 at'
    refine ⟨fun hoff => State.xram_of_none h1 h2 ((Cartridge.ramOffset_of_mbc1 hk _).trans (if_neg ?_)),
      fun hon hlen => ?_⟩
    · rcases hoff with h | h <;> simp [h]
    · exact State.xram_of_some h1 h2 ((Cartridge.ramOffset_of_mbc1 hk _).trans (if_pos (by simp [hon, hlen])))

end Sys2Proof.Machine
end

section
/-! # One call of the picture unit (60_exceptions.md R341 to R349)

The mode chain and the coincidence test, each described once by what it leaves of STAT, of the requests and of the
picture; `State.ppuRun` is one after the other. -/

namespace Sys2Proof.Machine

/-! ## The rasteriser reads neither the counter nor STAT (R352 to R364) -/

/-- The counter and STAT at other values. -/
def Ppu.setPhase (p : Ppu) (cycles : Nat) (stat : BitVec 7) : Ppu := { p with cycles := cycles, stat := stat }

theorem Ppu.bgPixel_setPhase (row : Nat) (p : Ppu) (c : Nat) (st : BitVec 7) (x : Nat) :
    Ppu.bgPixel row (p.setPhase c st) x = (Ppu.bgPixel row p x).setPhase c st := by
  simp only [Ppu.bgPixel, apply_ite (Ppu.setPhase · c st)]
  rfl

theorem Ppu.spritePixel_setPhase (row : Nat) (o : Sprite) (p : Ppu) (c : Nat) (st : BitVec 7) (i : Nat) :
    Ppu.spritePixel row o (p.setPhase c st) i = (Ppu.spritePixel row o p i).setPhase c st := by
  simp only [Ppu.spritePixel, apply_ite (Ppu.setPhase · c st)]
  rfl

theorem Ppu.bgPass_setPhase (row : Nat) (p : Ppu) (c : Nat) (st : BitVec 7) :
    Ppu.bgPass row (p.setPhase c st) = (Ppu.bgPass row p).setPhase c st :=
  List.foldl_hom (Ppu.setPhase · c st) fun q x => Ppu.bgPixel_setPhase row q c st x

theorem Ppu.drawSprite_setPhase (row : Nat) (p : Ppu) (o : Sprite) (c : Nat) (st : BitVec 7) :
    Ppu.drawSprite row (p.setPhase c st) o = (Ppu.drawSprite row p o).setPhase c st :=
  List.foldl_hom (Ppu.setPhase · c st) fun q i => Ppu.spritePixel_setPhase row o q c st i

theorem Ppu.spritePass_setPhase (row : Nat) (p : Ppu) (c : Nat) (st : BitVec 7) :
    Ppu.spritePass row (p.setPhase c st) = (Ppu.spritePass row p).setPhase c st :=
  List.foldl_hom (Ppu.setPhase · c st) fun q o => Ppu.drawSprite_setPhase row q o c st

theorem Ppu.rasteriseRow_setPhase (p : Ppu) (row c : Nat) (st : BitVec 7) :
    (p.setPhase c st).rasteriseRow row = (p.rasteriseRow row).setPhase c st := by
  have hpri : { p.setPhase c st with pri := Vector.replicate 160 .undrawn } =
    Ppu.setPhase { p with pri := Vector.replicate 160 .undrawn } c st := rfl
  rw [Ppu.rasteriseRow, hpri, Ppu.bgPass_setPhase, Ppu.spritePass_setPhase, Ppu.rasteriseRow]

/-! ## STAT -/

/-- STAT with another mode (R342). -/
def statWithMode (x : BitVec 7) (m : PpuMode) : BitVec 7 := (x &&& 0x7C) ||| m.code.setWidth 7

theorem statWithMode_toNat (x : BitVec 7) (m : PpuMode) :
    (statWithMode x m).toNat = x.toNat / 4 * 4 + m.code.toNat := by
  cases m <;> revert x <;> decide

/-- The other bits of STAT stay. -/
theorem statWithMode_getLsbD (x : BitVec 7) (m : PpuMode) {k : Nat} (hk : 2 ≤ k) :
    (statWithMode x m).getLsbD k = x.getLsbD k := by
  obtain ⟨j, rfl⟩ := Nat.exists_eq_add_of_le hk
  have hdiv : (x.toNat / 4 * 4 + m.code.toNat) / 2 ^ 2 = x.toNat / 2 ^ 2 := by
    have := m.code.isLt
    omega
  rw [BitVec.getLsbD, BitVec.getLsbD, statWithMode_toNat, Nat.add_comm 2 j, ← Nat.testBit_div_two_pow, hdiv,
    Nat.testBit_div_two_pow]

/-- The mode is in the two low bits (R342). -/
theorem Ppu.mode_eq_code {p : Ppu} {m : PpuMode} : p.mode = m.code ↔ p.stat.toNat % 4 = m.code.toNat := by
  rw [← BitVec.toNat_inj, Ppu.mode, BitVec.extractLsb'_toNat, Nat.shiftRight_zero]

theorem statWithMode_of_mode {p : Ppu} {m : PpuMode} (h : p.mode = m.code) : statWithMode p.stat m = p.stat := by
  apply BitVec.eq_of_toNat_eq
  rw [statWithMode_toNat, ← Ppu.mode_eq_code.1 h]
  omega

/-- STAT with bit 2 at `b` (R349). -/
theorem statWithLyc_toNat (x : BitVec 7) (b : Bool) :
    ((x &&& 0x7B) ||| ((BitVec.ofBool b).setWidth 7 <<< 2)).toNat = x.toNat / 8 * 8 + 4 * b.toNat + x.toNat % 4 := by
  cases b <;> revert x <;> decide

theorem modeAt_code (row phase : Nat) : (modeAt row phase).code.toNat =
    if row ≥ 144 then 1 else if phase < 80 then 2 else if phase < 252 then 3 else 0 := by
  simp only [modeAt, apply_ite PpuMode.code, apply_ite BitVec.toNat]
  rfl

/-! ## The mode chain -/

theorem State.requestIrqStat_eq (s : State) (b : Bool) : (if b then s.requestIrq .stat else s) =
    { s with iflag := s.iflag ||| (if b then Irq.stat.mask else 0#5) } := by
  split
  · rfl
  · rw [BitVec.or_zero]

theorem State.requestStatIf_eq (s : State) (n : Nat) : s.requestStatIf n =
    { s with iflag := s.iflag ||| (if s.ppu.stat.getLsbD n then Irq.stat.mask else 0#5) } :=
  s.requestIrqStat_eq (s.ppu.stat.getLsbD n)

theorem vblankMask_getLsbD (k : Nat) : Irq.vblank.mask.getLsbD k = decide (k = 0) := Irq.mask_getLsbD .vblank k

theorem statMask_getLsbD (k : Nat) : Irq.stat.mask.getLsbD k = decide (k = 1) := Irq.mask_getLsbD .stat k

theorem statMaskIf_getLsbD (b : Bool) (k : Nat) :
    (if b then Irq.stat.mask else 0#5).getLsbD k = (decide (k = 1) && b) := by
  cases b
  · simp
  · rw [if_pos rfl, statMask_getLsbD, Bool.and_true]

/-- `t` is `s` after the mode chain for mode `m` of a row (R343 to R347). -/
structure State.InMode (m : PpuMode) (row : Nat) (s t : State) : Prop where
  frame : t = { s with iflag := t.iflag, ppu := { s.ppu with stat := t.ppu.stat, fb := t.ppu.fb, pri := t.ppu.pri } }
  stat : t.ppu.stat = statWithMode s.ppu.stat m
  iflag : ∀ k, t.iflag.getLsbD k = (s.iflag.getLsbD k || (decide (s.ppu.mode ≠ m.code) &&
    ((decide (k = 0) && decide (m = .vblank)) || (decide (k = 1) &&
      ((decide (m = .oamScan) && s.ppu.stat.getLsbD 5) || (decide (m = .hblank) && s.ppu.stat.getLsbD 3))))))
  kept : ¬ (s.ppu.mode ≠ m.code ∧ m = .hblank) → t.ppu.fb = s.ppu.fb ∧ t.ppu.pri = s.ppu.pri
  drawn : s.ppu.mode ≠ m.code → m = .hblank →
    t.ppu.fb = (s.ppu.rasteriseRow row).fb ∧ t.ppu.pri = (s.ppu.rasteriseRow row).pri

theorem State.inMode_enterMode {s : State} {m : PpuMode} (h : s.ppu.mode ≠ m.code) (row : Nat) :
    State.InMode m row s ((s.setMode m).enterMode m row) := by
  have hbit : ∀ n, 2 ≤ n → (s.setMode m).ppu.stat.getLsbD n = s.ppu.stat.getLsbD n :=
    fun n hn => statWithMode_getLsbD s.ppu.stat m hn
  unfold State.enterMode
  cases m
  case vblank =>
    exact ⟨rfl, rfl, fun k => by rw [State.requestIrq, BitVec.getLsbD_or, vblankMask_getLsbD]; simp [h, State.setMode],
      fun _ => ⟨rfl, rfl⟩, nofun⟩
  case oamScan =>
    simp only [State.requestStatIf_eq, hbit 5 (by omega)]
    exact ⟨rfl, rfl, fun k => by rw [BitVec.getLsbD_or, statMaskIf_getLsbD]; simp [h, State.setMode],
      fun _ => ⟨rfl, rfl⟩, nofun⟩
  case transfer => exact ⟨rfl, rfl, fun k => by simp [State.setMode], fun _ => ⟨rfl, rfl⟩, nofun⟩
  case hblank =>
    have hdrawn : (s.setMode .hblank).ppu.rasteriseRow row =
        (s.ppu.rasteriseRow row).setPhase s.ppu.cycles (statWithMode s.ppu.stat .hblank) :=
      s.ppu.rasteriseRow_setPhase row s.ppu.cycles _
    have hrow := (s.ppu.onRow_rasteriseRow row).frame
    simp only [State.requestStatIf_eq, hdrawn, Ppu.setPhase, statWithMode_getLsbD _ _ (show 2 ≤ 3 by omega)]
    refine ⟨?_, rfl, fun k => by rw [BitVec.getLsbD_or, statMaskIf_getLsbD]; simp [h, State.setMode],
      fun hne => absurd ⟨h, rfl⟩ hne, fun _ _ => ⟨rfl, rfl⟩⟩
    rw [hrow]
    rfl

theorem State.inMode_modeChain (s : State) (row phase : Nat) :
    State.InMode (modeAt row phase) row s (s.modeChain row phase) := by
  unfold State.modeChain
  simp only
  split
  · next h => exact ⟨rfl, (statWithMode_of_mode h).symm, fun k => by simp [h], fun _ => ⟨rfl, rfl⟩,
      fun hne => absurd h hne⟩
  · next h => exact State.inMode_enterMode h row

/-! ## The coincidence test -/

/-- Whether the coincidence test makes a request (R349). -/
def Ppu.lycRequest (p : Ppu) (edge : Bool) (row : Nat) : Bool :=
  decide (row = p.lyc.toNat) && p.stat.getLsbD 6 && !(edge && p.stat.getLsbD 2)

theorem State.coincidence_eq (s : State) (row : Nat) : s.coincidence row =
    { s.setLycFlag (decide (row = s.ppu.lyc.toNat)) with
      iflag := s.iflag ||| (if s.ppu.lycRequest s.params.lycIrqEdge row then Irq.stat.mask else 0#5) } := by
  unfold State.coincidence Ppu.lycRequest
  by_cases hlyc : row = s.ppu.lyc.toNat
  · rw [if_pos hlyc, decide_eq_true hlyc, Bool.true_and]
    exact (s.setLycFlag true).requestIrqStat_eq _
  · rw [if_neg hlyc, decide_eq_false hlyc, Bool.false_and]
    exact (s.setLycFlag false).requestIrqStat_eq false

theorem State.coincidence_frame (s : State) (row : Nat) : s.coincidence row =
    { s with iflag := (s.coincidence row).iflag, ppu := { s.ppu with stat := (s.coincidence row).ppu.stat } } := by
  rw [State.coincidence_eq]
  rfl

theorem State.coincidence_stat (s : State) (row : Nat) : (s.coincidence row).ppu.stat.toNat =
    s.ppu.stat.toNat / 8 * 8 + 4 * (decide (row = s.ppu.lyc.toNat)).toNat + s.ppu.stat.toNat % 4 := by
  rw [State.coincidence_eq]
  exact statWithLyc_toNat s.ppu.stat _

theorem State.coincidence_getLsbD (s : State) (row k : Nat) : (s.coincidence row).iflag.getLsbD k =
    (s.iflag.getLsbD k || (decide (k = 1) && s.ppu.lycRequest s.params.lycIrqEdge row)) := by
  rw [State.coincidence_eq]
  exact (BitVec.getLsbD_or ..).trans (congrArg _ (statMaskIf_getLsbD _ k))

/-! ## The call -/

/-- The row the counter has reached after `d` cycles, before the wrap (R343). -/
def State.ppuRow (d : Nat) (s : State) : Nat := (s.ppu.cycles + d) / 456

/-- The row shown, after the wrap (R348). -/
def State.ppuShown (d : Nat) (s : State) : Nat := if s.ppuRow d > 153 then 0 else s.ppuRow d

/-- The state in which the mode chain of a call begins (R343). -/
def State.ppuCounted (d : Nat) (s : State) : State :=
  { s with ppu := { s.ppu with cycles := s.ppu.cycles + d },
           frameReady := decide (s.ppuRow d ≥ 144) && s.ppu.mode != PpuMode.vblank.code }

/-- The state in which the coincidence test of a call begins, from the one `t` the mode chain leaves (R348). -/
def State.ppuWrapped (d : Nat) (s t : State) : State :=
  { t with ppu := { t.ppu with cycles := if s.ppuRow d > 153 then 0 else s.ppu.cycles + d,
                               ly := BitVec.ofNat 8 (s.ppuShown d) } }

theorem State.ppuRun_of_off {s : State} (h : s.ppu.lcdc.getLsbD 7 = false) (d : Nat) :
    s.ppuRun d = { s with frameReady := false } := by
  rw [State.ppuRun, h]
  rfl

theorem State.ppuRun_of_on {s : State} (h : s.ppu.lcdc.getLsbD 7 = true) (d : Nat) :
    ∃ u, State.InMode (modeAt (s.ppuRow d) ((s.ppu.cycles + d) % 456)) (s.ppuRow d) (s.ppuCounted d) u ∧
      s.ppuRun d = (s.ppuWrapped d u).coincidence (s.ppuShown d) :=
  ⟨_, State.inMode_modeChain .., by rw [State.ppuRun, h]; rfl⟩

theorem State.ppuShown_lt (d : Nat) (s : State) : s.ppuShown d < 256 := by
  unfold State.ppuShown
  split <;> omega

/-- The row calls for VBlank in and only in rows 144 to 153 (R344). -/
theorem modeAt_eq_vblank {row phase : Nat} : modeAt row phase = .vblank ↔ row ≥ 144 := by
  unfold modeAt
  split_ifs with hrow <;> simp [hrow]

theorem State.ppuCounted_frameReady (d : Nat) (s : State) : (s.ppuCounted d).frameReady =
    (decide (s.ppu.mode ≠ (modeAt (s.ppuRow d) ((s.ppu.cycles + d) % 456)).code) &&
      decide (modeAt (s.ppuRow d) ((s.ppu.cycles + d) % 456) = .vblank)) := by
  by_cases hrow : s.ppuRow d ≥ 144
  · rw [modeAt_eq_vblank.2 hrow, decide_eq_true rfl, Bool.and_true, State.ppuCounted, decide_eq_true hrow, Bool.true_and]
    exact Bool.eq_iff_iff.2 (by simp)
  · simp [State.ppuCounted, modeAt_eq_vblank, hrow]

/-- Settles O57: off by definition; on by the mode chain, then the coincidence test. -/
theorem pictureUnitCall : Obligations.PictureUnitCall := by
  intro s d t cycles row phase shown mode next entered vblank hblank isLyc statReq
  refine ⟨fun h => State.ppuRun_of_off h d, fun h => ?_⟩
  obtain ⟨u, hu, ht⟩ : ∃ u, State.InMode (modeAt row phase) row (s.ppuCounted d) u ∧
    t = (s.ppuWrapped d u).coincidence shown := State.ppuRun_of_on h d
  have hfr : (s.ppuCounted d).frameReady = (decide (s.ppu.mode ≠ (modeAt row phase).code) &&
    decide (modeAt row phase = .vblank)) := s.ppuCounted_frameReady d
  have hnext : (modeAt row phase).code.toNat = next := modeAt_code row phase
  generalize modeAt row phase = m at hu hnext hfr
  have hlyc : u.ppu.lyc = s.ppu.lyc := congrArg (·.ppu.lyc) hu.frame
  have hparams : u.params = s.params := congrArg (·.params) hu.frame
  have hstat : u.ppu.stat.toNat = s.ppu.stat.toNat / 4 * 4 + next := by rw [hu.stat, statWithMode_toNat, hnext]; rfl
  have hentered : decide (s.ppu.mode ≠ m.code) = entered :=
    decide_eq_decide.2 (not_congr (Ppu.mode_eq_code.trans (by rw [hnext])))
  have hmode : ∀ n : PpuMode, decide (m = n) = decide (next = n.code.toNat) := fun n => by
    rw [← hnext]
    cases m <;> cases n <;> rfl
  have hhblank : hblank = true ↔ s.ppu.mode ≠ m.code ∧ m = .hblank := by
    have : hblank = (decide (s.ppu.mode ≠ m.code) && decide (m = .hblank)) := by
      rw [hentered, hmode]
      rfl
    rw [this, Bool.and_eq_true, decide_eq_true_iff, decide_eq_true_iff]
  have hbit : ∀ k, 2 ≤ k → u.ppu.stat.getLsbD k = s.ppu.stat.getLsbD k := fun k hk => by
    rw [hu.stat, statWithMode_getLsbD _ _ hk]
    rfl
  have hframe : t = _ := ht.trans (State.coincidence_frame _ _)
  refine ⟨?_, ?_, ?_, fun k => ?_, ?_, fun hno => ?_, fun hyes => ?_, ?_⟩
  · rw [hframe]
    rfl
  · rw [hframe]
    exact (BitVec.toNat_ofNat _ _).trans (Nat.mod_eq_of_lt (s.ppuShown_lt d))
  · have hframeReady : t.frameReady = u.frameReady := congrArg (·.frameReady) hframe
    have hu' : u.frameReady = (s.ppuCounted d).frameReady := congrArg (·.frameReady) hu.frame
    rw [hframeReady, hu', hfr, hentered, hmode]
    rfl
  · have hreq := hu.iflag k
    change _ = (s.iflag.getLsbD k || (decide (s.ppu.mode ≠ m.code) && _)) at hreq
    rw [ht, State.coincidence_getLsbD]
    change (u.iflag.getLsbD k || (decide (k = 1) && (decide (shown = u.ppu.lyc.toNat) && u.ppu.stat.getLsbD 6 &&
      !(u.params.lycIrqEdge && u.ppu.stat.getLsbD 2)))) = _
    rw [hlyc, hparams, hbit 6 (by omega), hbit 2 (by omega), hreq, hentered, hmode, hmode, hmode]
    change (_ || (_ && ((_ && decide (next = 1)) || (_ && ((decide (next = 2) && s.ppu.stat.getLsbD 5) ||
      (decide (next = 0) && s.ppu.stat.getLsbD 3))))) || (_ && (isLyc && _ && _))) = _
    simp only [statReq, vblank, hblank, Bool.and_or_distrib_left]
    ac_rfl
  · rw [ht]
    refine (State.coincidence_stat _ _).trans ?_
    change u.ppu.stat.toNat / 8 * 8 + 4 * (decide (shown = u.ppu.lyc.toNat)).toNat + u.ppu.stat.toNat % 4 = _
    have : next < 4 := hnext ▸ m.code.isLt
    rw [hstat, hlyc]
    change _ = s.ppu.stat.toNat / 8 * 8 + 4 * (decide (shown = s.ppu.lyc.toNat)).toNat + next
    omega
  · rw [hframe]
    exact hu.kept fun h => Bool.false_ne_true (hno.symm.trans (hhblank.2 h))
  · rw [hframe]
    obtain ⟨hne, hm⟩ := hhblank.1 hyes
    exact (hu.drawn hne hm).1.trans (congrArg (·.fb) (s.ppu.rasteriseRow_setPhase row cycles s.ppu.stat))
  · rw [hframe, hu.frame]
    rfl

end Sys2Proof.Machine
end

section
/-! # The step (60_exceptions.md R310 to R318)

The three kinds of CPU step, and what follows for the step of the machine: when it returns, and that what the memory
operations, the timer and the picture unit keep, it keeps. -/

namespace Sys2Proof.Machine

/-! ## The kinds of step -/

theorem State.serviceable_eq_none {s : State} (h : s.cpu.ime = false ∨ s.ie &&& s.iflag = 0) : s.serviceable = none := by
  rcases h with h | h
  · rw [State.serviceable, h]
    rfl
  · rw [State.serviceable, State.pending, h]
    split <;> rfl

theorem State.cpuStep_eq_of_serviceable {s : State} {i : Irq} (h : s.serviceable = some i) :
    s.cpuStep = .next (State.wakeCheck (if s.params.irqAdvancesTimer then State.timerAdvance 20 (s.serviceInterrupt i)
      else s.serviceInterrupt i), 20) := by
  simp only [State.cpuStep, h]

theorem State.cpuStep_of_halted {s : State} (hnone : s.serviceable = none) (hhalt : s.cpu.halt = true) :
    s.cpuStep = .next ((s.timerAdvance 4).wakeCheck, 4) := by
  simp only [State.cpuStep, hnone, if_pos hhalt]

theorem step_of_cpuStep {s u : State} {c : Nat} (h : s.cpuStep = .next (u, c)) : step s = .next (u.ppuRun c) := by
  simp only [step, State.systemStep, h]

/-- `PC` past the instruction that runs (R24). -/
def State.past (s : State) (i : Instr) : State := s.setPc (s.cpu.pc + BitVec.ofNat 16 i.length)

/-- A running CPU runs the instruction at `PC`; where it stops, the step stops (R310, R312). -/
theorem step_of_running {s : State} (hnone : s.serviceable = none) (hhalt : s.cpu.halt = false) {i : Instr}
    {rest : List Byte} (hdecode : decode s.fetchWindow = .ok (i, rest)) :
    (∀ t, exec i (s.past i) = .next t → step s = .next (t.afterInstr (costOf i s))) ∧
      (∀ r, exec i (s.past i) = .fault r → step s = .fault r) ∧
      ∀ r, exec i (s.past i) = .refused r → step s = .refused r := by
  simp only [State.past, step, State.systemStep, State.cpuStep, hnone, hhalt, State.runInstr, hdecode,
    Bool.false_eq_true, if_false]
  refine ⟨fun t h => ?_, fun r h => ?_, fun r h => ?_⟩ <;> simp only [h]
  rfl

/-- The bytes at `PC` always hold a whole instruction. -/
theorem State.decode_fetchWindow (s : State) : ∃ i rest, decode s.fetchWindow = .ok (i, rest) ∧ i.wellFormed = true := by
  obtain ⟨i, hi, hwhole, -⟩ :=
    decode_of_three (s.busRead s.cpu.pc) (s.busRead (s.cpu.pc + 1)) (s.busRead (s.cpu.pc + 2)) []
  exact ⟨i, _, hi, hwhole⟩

/-- Settles O5: the step of a running CPU, by the outcome of the instruction. -/
theorem stepRunsInstruction : Obligations.StepRunsInstruction := by
  intro s i rest hquiet hhalt hdecode
  obtain ⟨hnext, hfault, hrefused⟩ := step_of_running (State.serviceable_eq_none hquiet) hhalt hdecode
  cases he : exec i (s.setPc (s.cpu.pc + BitVec.ofNat 16 i.length)) with
  | next t => exact hnext t he
  | fault r => exact hfault r he
  | refused r => exact hrefused r he

/-- Settles O50: the timer's closed form, then the wake check. -/
theorem haltedStep : Obligations.HaltedStep := by
  intro s hhalt hquiet
  refine ⟨_, State.cpuStep_of_halted (State.serviceable_eq_none hquiet) hhalt, ?_⟩
  obtain ⟨-, -, -, -, -, hcpu, -⟩ := timerClosedForm s 4
  have hcpu' : (State.timerAdvance 4 s).cpu = { s.cpu with halt := (State.timerAdvance 4 s).cpu.halt } := by
    rw [hcpu]
  unfold State.wakeCheck
  generalize State.timerAdvance 4 s = u at hcpu' ⊢
  split
  · next h =>
      have hpending : u.ie &&& u.iflag = 0 := h
      exact ⟨hcpu', rfl, .inr, (·.resolve_left (not_not.2 hpending))⟩
  · next h =>
      have hpending : u.ie &&& u.iflag ≠ 0 := h
      exact ⟨by rw [State.setHalt, hcpu'], rfl, fun _ => .inl hpending, fun _ => rfl⟩

/-! ## Every step returns -/

theorem encode_length_undefined : ∀ i ∈ Instr.undefinedRows, (encode i).length = 1 := by decide

/-- The one byte of an undefined opcode is the byte at `PC` (R305). -/
theorem State.busRead_pc_of_undefined {s : State} {i : Instr} {rest : List Byte} (hi : i ∈ Instr.undefinedRows)
    (h : decode s.fetchWindow = .ok (i, rest)) : [s.busRead s.cpu.pc] ∈ Instr.undefinedRows.map encode := by
  have hfirst : [s.busRead s.cpu.pc] = encode i :=
    calc [s.busRead s.cpu.pc]
      _ = s.fetchWindow.take 1 := rfl
      _ = (encode i ++ rest).take 1 := by rw [encodeOfDecode _ _ _ h]
      _ = encode i := List.take_left' (encode_length_undefined i hi)
  rw [hfirst]
  exact List.mem_map_of_mem hi

/-- A step that does not return is stopped by an undefined opcode (R305, R311). -/
theorem step_returns_or_stuck (s : State) : (∃ t, step s = .next t) ∨
    (step s = .fault .undefinedOpcode ∧ s.params.undefPolicy = .stuck ∧ s.cpu.halt = false ∧
      [s.busRead s.cpu.pc] ∈ Instr.undefinedRows.map encode) := by
  cases hservice : s.serviceable with
  | some i =>
    obtain ⟨t, ht, -⟩ := State.cpuStep_of_serviceable hservice
    exact .inl ⟨_, step_of_cpuStep ht⟩
  | none =>
    cases hhalt : s.cpu.halt with
    | true => exact .inl ⟨_, step_of_cpuStep (State.cpuStep_of_halted hservice hhalt)⟩
    | false =>
      obtain ⟨i, rest, hdecode, hi⟩ := s.decode_fetchWindow
      obtain ⟨hnext, hfault, -⟩ := step_of_running hservice hhalt hdecode
      rcases undefined_or_completes hi with hundef | hcompletes
      · have hexec := exec_undefined hundef (s.past i)
        cases hpolicy : s.params.undefPolicy with
        | nop => exact .inl ⟨_, hnext _ (hexec.trans (opUndefined_nop hpolicy))⟩
        | stuck =>
          exact .inr ⟨hfault _ (hexec.trans (opUndefined_stuck hpolicy)), rfl, rfl,
            State.busRead_pc_of_undefined hundef hdecode⟩
      · obtain ⟨t, ht, -⟩ := hcompletes (s.past i)
        exact .inl ⟨_, hnext t ht⟩

/-- Settles O41: under UNDEF_POLICY = nop nothing stops. -/
theorem everyStepReturns : Obligations.EveryStepReturns := fun s =>
  ⟨fun hnop => (step_returns_or_stuck s).resolve_right fun ⟨_, hstuck, _⟩ => by simp [hnop] at hstuck,
    step_returns_or_stuck s⟩

/-! ## What every step keeps -/

/-- A property of states that no part of a step breaks: it does not look at the CPU or at IF, and bus writes, the timer
and the picture unit keep it. -/
structure StepInvariant (P : State → Prop) : Prop where
  setCpu : ∀ s c, P s → P { s with cpu := c }
  setIflag : ∀ s x, P s → P { s with iflag := x }
  busWrite : ∀ s a v, P s → P (s.busWrite a v)
  timerAdvance : ∀ s d, P s → P (State.timerAdvance d s)
  ppuRun : ∀ s d, P s → P (State.ppuRun d s)

section
variable {P : State → Prop} (h : StepInvariant P)
include h

theorem StepInvariant.busWrites {s : State} (hs : P s) (ws : List (Word × Byte)) : P (s.busWrites ws) := by
  unfold State.busWrites
  induction ws generalizing s with
  | nil => exact hs
  | cons w ws ih => exact ih (h.busWrite s w.1 w.2 hs)

theorem StepInvariant.wakeCheck {s : State} (hs : P s) : P s.wakeCheck := by
  unfold State.wakeCheck
  split
  · exact hs
  · exact h.setCpu _ _ hs

theorem StepInvariant.push16 {s : State} (hs : P s) (v : Word) : P (s.push16 v) := by
  rw [State.push16_eq_busWrites]
  exact h.setCpu _ _ (h.busWrites hs _)

theorem StepInvariant.serviceInterrupt {s : State} (hs : P s) (i : Irq) : P (s.serviceInterrupt i) := by
  rw [State.serviceInterrupt_eq]
  exact h.setCpu _ _ (h.push16 (h.setIflag s _ hs) _)

theorem StepInvariant.exec {i : Instr} {s t : State} (hs : P s) (hi : i.wellFormed = true) (hexec : exec i s = .next t) :
    P t := by
  rw [(runs_of_exec hi hexec).outside]
  exact h.setCpu _ _ (h.busWrites hs _)

theorem StepInvariant.step {s t : State} (hs : P s) (hstep : step s = .next t) : P t := by
  cases hservice : s.serviceable with
  | some i =>
    rw [step_of_cpuStep (State.cpuStep_eq_of_serviceable hservice)] at hstep
    cases hstep
    have hserved := h.serviceInterrupt hs i
    refine h.ppuRun _ _ (h.wakeCheck ?_)
    split
    · exact h.timerAdvance _ _ hserved
    · exact hserved
  | none =>
    cases hhalt : s.cpu.halt with
    | true =>
      rw [step_of_cpuStep (State.cpuStep_of_halted hservice hhalt)] at hstep
      cases hstep
      exact h.ppuRun _ _ (h.wakeCheck (h.timerAdvance _ _ hs))
    | false =>
      obtain ⟨i, rest, hdecode, hi⟩ := s.decode_fetchWindow
      obtain ⟨hnext, hfault, hrefused⟩ := step_of_running hservice hhalt hdecode
      cases hexec : Machine.exec i (s.past i) with
      | next u =>
        rw [hnext u hexec] at hstep
        cases hstep
        exact h.ppuRun _ _ (h.wakeCheck (h.timerAdvance _ _ (h.exec (h.setCpu s _ hs) hi hexec)))
      | fault r => rw [hfault r hexec] at hstep; cases hstep
      | refused r => rw [hrefused r hexec] at hstep; cases hstep

end

/-! ## The picture unit keeps a safe state safe -/

theorem Ppu.wf_iff {p : Ppu} : p.wf = true ↔
    Memory.sized Config.vramSize p.vram = true ∧ Memory.sized Config.oamSize p.oam = true ∧
    (Memory.sized (Config.screenWidth * Config.screenHeight) p.fb = true ∧ p.fb.all (fun c => c.2.toNat < 4) = true) ∧
    p.cycles < 70224 ∧ p.ly.toNat = p.cycles / 456 ∧
    (p.mode = (modeAt (p.cycles / 456) (p.cycles % 456)).code ∨
      p.cycles = 0 ∧ (p.mode = PpuMode.hblank.code ∨ p.mode = PpuMode.vblank.code)) := by
  simp only [Ppu.wf, Bool.and_eq_true, Bool.or_eq_true, decide_eq_true_eq, beq_iff_eq, and_assoc]
  rfl

theorem State.InMode.mode {m : PpuMode} {row : Nat} {s t : State} (h : State.InMode m row s t) : t.ppu.mode = m.code := by
  have := m.code.isLt
  rw [Ppu.mode_eq_code, h.stat, statWithMode_toNat]
  omega

/-- Every row that is drawn is on the screen, so the framebuffer keeps its size and its shades (10_state.md R50). -/
theorem State.InMode.fb {m : PpuMode} {row : Nat} {s t : State} (h : State.InMode m row s t)
    (hrow : m = .hblank → row < 144)
    (hfb : Memory.sized (Config.screenWidth * Config.screenHeight) s.ppu.fb = true ∧
      s.ppu.fb.all (fun c => c.2.toNat < 4) = true) :
    Memory.sized (Config.screenWidth * Config.screenHeight) t.ppu.fb = true ∧
      t.ppu.fb.all (fun c => c.2.toNat < 4) = true := by
  by_cases hdraws : s.ppu.mode ≠ m.code ∧ m = .hblank
  · obtain ⟨hne, hm⟩ := hdraws
    rw [(h.drawn hne hm).1]
    exact (s.ppu.drawn_rasteriseRow (hrow hm)).fb hfb.1 hfb.2
  · rw [(h.kept hdraws).1]
    exact hfb

theorem State.coincidence_mode (s : State) (row : Nat) : (s.coincidence row).ppu.mode = s.ppu.mode := by
  have hstat := s.coincidence_stat row
  rw [← BitVec.toNat_inj]
  simp only [Ppu.mode, BitVec.extractLsb'_toNat, Nat.shiftRight_zero]
  omega

theorem Ppu.wf_setStat {p : Ppu} (h : p.wf = true) {x : BitVec 7} (hx : Ppu.mode { p with stat := x } = p.mode) :
    Ppu.wf { p with stat := x } = true := by
  obtain ⟨hvram, hoam, hfb, hcycles, hly, hmode⟩ := Ppu.wf_iff.1 h
  exact Ppu.wf_iff.2 ⟨hvram, hoam, hfb, hcycles, hly, hx ▸ hmode⟩

theorem State.coincidence_wf {s : State} (h : State.wf s = true) (row : Nat) : State.wf (s.coincidence row) = true := by
  obtain ⟨hcart, hppu, hwram, hhram, htimer⟩ := State.wf_iff.1 h
  rw [s.coincidence_frame row]
  exact State.wf_iff.2 ⟨hcart, Ppu.wf_setStat hppu (s.coincidence_mode row), hwram, hhram, htimer⟩

/-- After the wrap the counter is inside the frame, with LY its row and the mode the one it calls for; where the frame
has wrapped the mode is still VBlank (R348). -/
theorem State.ppuWrapped_counter {d : Nat} {s u : State}
    (h : u.ppu.mode = (modeAt (s.ppuRow d) ((s.ppu.cycles + d) % 456)).code) :
    (s.ppuWrapped d u).ppu.cycles < 70224 ∧ (s.ppuWrapped d u).ppu.ly.toNat = (s.ppuWrapped d u).ppu.cycles / 456 ∧
      ((s.ppuWrapped d u).ppu.mode =
          (modeAt ((s.ppuWrapped d u).ppu.cycles / 456) ((s.ppuWrapped d u).ppu.cycles % 456)).code ∨
        (s.ppuWrapped d u).ppu.cycles = 0 ∧
          ((s.ppuWrapped d u).ppu.mode = PpuMode.hblank.code ∨ (s.ppuWrapped d u).ppu.mode = PpuMode.vblank.code)) := by
  have hly : (s.ppuWrapped d u).ppu.ly.toNat = s.ppuShown d :=
    (BitVec.toNat_ofNat _ _).trans (Nat.mod_eq_of_lt (s.ppuShown_lt d))
  have hmode : (s.ppuWrapped d u).ppu.mode = _ := h
  rw [hly, hmode]
  by_cases hwrap : s.ppuRow d > 153
  · have hcycles : (s.ppuWrapped d u).ppu.cycles = 0 := if_pos hwrap
    have hvblank := modeAt_eq_vblank (phase := (s.ppu.cycles + d) % 456).2 (show s.ppuRow d ≥ 144 by omega)
    rw [hcycles, State.ppuShown, if_pos hwrap, hvblank]
    exact ⟨by omega, rfl, .inr ⟨rfl, .inr rfl⟩⟩
  · have hcycles : (s.ppuWrapped d u).ppu.cycles = s.ppu.cycles + d := if_neg hwrap
    rw [hcycles, State.ppuShown, if_neg hwrap]
    exact ⟨by unfold State.ppuRow at hwrap; omega, rfl, .inl rfl⟩

/-- A call of the picture unit keeps a safe state safe (R341 to R349). -/
theorem State.ppuRun_wf {s : State} (h : State.wf s = true) (d : Nat) : State.wf (State.ppuRun d s) = true := by
  cases hlcd : s.ppu.lcdc.getLsbD 7 with
  | false =>
    rw [State.ppuRun_of_off hlcd]
    exact h
  | true =>
    obtain ⟨u, hu, ht⟩ := State.ppuRun_of_on hlcd d
    rw [ht]
    apply State.coincidence_wf
    obtain ⟨hcart, hppu, hwram, hhram, htimer⟩ := State.wf_iff.1 h
    obtain ⟨hvram, hoam, hfb, hcycles, hly, hmode⟩ := Ppu.wf_iff.1 hppu
    have hrow : modeAt (s.ppuRow d) ((s.ppu.cycles + d) % 456) = .hblank → s.ppuRow d < 144 := fun hm =>
      not_le.1 fun hle => by rw [modeAt_eq_vblank.2 hle] at hm; cases hm
    have hfb' := hu.fb hrow hfb
    have hcounter := State.ppuWrapped_counter hu.mode
    rw [hu.frame] at hcounter ⊢
    exact State.wf_iff.2 ⟨hcart, Ppu.wf_iff.2 ⟨hvram, hoam, hfb', hcounter⟩, hwram, hhram, htimer⟩

theorem stepInvariant_wf : StepInvariant (fun s => State.wf s = true) where
  setCpu _ _ h := h
  setIflag _ _ h := h
  busWrite _ a v h := State.busWrite_wf h a v
  timerAdvance _ d h := State.timerAdvance_wf h d
  ppuRun _ d h := State.ppuRun_wf h d

/-- Settles O42: safety is a step invariant; a snapshot writes the keys and IF, which safety does not look at. -/
theorem stepKeepsSafe : Obligations.StepKeepsSafe :=
  ⟨fun _ _ hs hstep => stepInvariant_wf.step hs hstep, fun k s hs => by rw [joypadApply_frame k s]; exact hs⟩

/-! ## What no step changes -/

/-- `t` has the image, the lengths, the kind of controller and the parameters of `s`. -/
def State.SameMachine (s t : State) : Prop :=
  t.cart.rom = s.cart.rom ∧ t.cart.romLen = s.cart.romLen ∧ t.cart.ramLen = s.cart.ramLen ∧
    (t.cart.controller = .mbc0 ↔ s.cart.controller = .mbc0) ∧ t.params = s.params

theorem State.SameMachine.of_eq {s t u : State} (h : State.SameMachine s t) (hcart : u.cart = t.cart)
    (hparams : u.params = t.params) : State.SameMachine s u := by
  unfold State.SameMachine
  rw [hcart, hparams]
  exact h

theorem State.ppuRun_cart_params (d : Nat) (s : State) :
    (State.ppuRun d s).cart = s.cart ∧ (State.ppuRun d s).params = s.params := by
  cases hlcd : s.ppu.lcdc.getLsbD 7 with
  | false =>
    rw [State.ppuRun_of_off hlcd]
    exact ⟨rfl, rfl⟩
  | true =>
    obtain ⟨u, hu, ht⟩ := State.ppuRun_of_on hlcd d
    rw [ht, State.coincidence_frame]
    exact ⟨congrArg (·.cart) hu.frame, congrArg (·.params) hu.frame⟩

theorem State.timerAdvance_cart_params (d : Nat) (s : State) :
    (State.timerAdvance d s).cart = s.cart ∧ (State.timerAdvance d s).params = s.params := by
  obtain ⟨-, -, -, -, -, -, hframe⟩ := timerClosedForm s d
  exact ⟨congrArg (·.cart) hframe, congrArg (·.params) hframe⟩

theorem Cartridge.write_kind (c : Cartridge) (a : Nat) (v : Byte) :
    (c.write a v).controller = .mbc0 ↔ c.controller = .mbc0 := by
  cases hk : c.controller with
  | mbc0 => simp [Cartridge.write, hk]
  | mbc1 r => simp [Cartridge.write, hk]

/-- Control writes change MBC1's registers, never the kind of controller. -/
theorem State.busWrite_kind (s : State) (a : Word) (v : Byte) :
    (s.busWrite a v).cart.controller = .mbc0 ↔ s.cart.controller = .mbc0 := by
  rcases Nat.lt_or_ge a.toNat 0x8000 with ha | ha
  · rw [State.busWrite_rom (by omega)]
    exact s.cart.write_kind a.toNat v
  · rw [State.busWrite_controller s ha]

theorem stepInvariant_sameMachine (s : State) : StepInvariant (State.SameMachine s) where
  setCpu _ _ h := h
  setIflag _ _ h := h
  busWrite t a v h := by
    obtain ⟨hrom, hromLen, hramLen, hkind, hparams⟩ := h
    obtain ⟨hrom', hromLen', hramLen'⟩ := t.busWrite_cart_fixed a v
    exact ⟨hrom'.trans hrom, hromLen'.trans hromLen, hramLen'.trans hramLen, (t.busWrite_kind a v).trans hkind,
      (t.busWrite_params a v).trans hparams⟩
  timerAdvance t d h := h.of_eq (t.timerAdvance_cart_params d).1 (t.timerAdvance_cart_params d).2
  ppuRun t d h := h.of_eq (t.ppuRun_cart_params d).1 (t.ppuRun_cart_params d).2

/-- Settles O47. -/
theorem romAndParamsFixed : Obligations.RomAndParamsFixed := fun s _ hstep =>
  (stepInvariant_sameMachine s).step ⟨rfl, rfl, rfl, .rfl, rfl⟩ hstep

end Sys2Proof.Machine
end

section
/-! # The sprites of a row (60_exceptions.md R358 to R360)

The sprites are OAM entries, named by their numbers: the sort keeps the list of numbers in ascending X and, for equal X,
ascending number. -/

namespace Sys2Proof.Machine

/-- `m` comes before `n`: a smaller X, or equal X and a smaller number (R360). -/
def Sprite.Before (f : Nat → Sprite) (m n : Nat) : Prop :=
  (f m).x.toNat < (f n).x.toNat ∨ ((f m).x.toNat = (f n).x.toNat ∧ m < n)

/-- One step of the sort: a number larger than all so far goes to its place. -/
theorem insertByX_sorted {f : Nat → Sprite} {n : Nat} {ns : List Nat} (hns : ns.Pairwise (Sprite.Before f))
    (hn : ∀ m ∈ ns, m < n) : ∃ ns' : List Nat, insertByX (f n) (ns.map f) = ns'.map f ∧
      ns'.Pairwise (Sprite.Before f) ∧ ns'.Perm (n :: ns) := by
  induction ns with
  | nil => exact ⟨[n], rfl, List.pairwise_singleton _ _, .refl _⟩
  | cons m ns ih =>
    obtain ⟨hm, hrest⟩ := List.pairwise_cons.1 hns
    by_cases hx : (f n).x.toNat < (f m).x.toNat
    · refine ⟨n :: m :: ns, if_pos hx, List.pairwise_cons.2 ⟨fun k hk => .inl ?_, hns⟩, .refl _⟩
      rcases List.mem_cons.1 hk with rfl | hk
      · exact hx
      · rcases hm k hk with h | ⟨h, -⟩ <;> omega
    · obtain ⟨ns', hmap, hsorted, hperm⟩ := ih hrest fun k hk => hn k (List.mem_cons_of_mem m hk)
      have hmn : Sprite.Before f m n := by
        have := hn m List.mem_cons_self
        unfold Sprite.Before
        omega
      refine ⟨m :: ns', ?_, List.pairwise_cons.2 ⟨fun k hk => ?_, hsorted⟩, (hperm.cons m).trans (.swap n m ns)⟩
      · rw [List.map_cons, insertByX, if_neg hx, hmap, List.map_cons]
      · rcases List.mem_cons.1 (hperm.mem_iff.1 hk) with rfl | hk
        · exact hmn
        · exact hm k hk

theorem foldl_insertByX_sorted {f : Nat → Sprite} {l ns : List Nat} (hl : l.Pairwise (· < ·))
    (hns : ns.Pairwise (Sprite.Before f)) (hlt : ∀ m ∈ ns, ∀ n ∈ l, m < n) :
    ∃ ns' : List Nat, (l.map f).foldl (fun acc o => insertByX o acc) (ns.map f) = ns'.map f ∧
      ns'.Pairwise (Sprite.Before f) ∧ ns'.Perm (ns ++ l) := by
  induction l generalizing ns with
  | nil => exact ⟨ns, rfl, hns, by simp⟩
  | cons n l ih =>
    obtain ⟨hn, hl⟩ := List.pairwise_cons.1 hl
    obtain ⟨ns', hmap, hsorted, hperm⟩ := insertByX_sorted hns fun m hm => hlt m hm n List.mem_cons_self
    obtain ⟨ns'', hmap', hsorted', hperm'⟩ := ih hl hsorted fun m hm k hk => by
      rcases List.mem_cons.1 (hperm.mem_iff.1 hm) with rfl | hm
      · exact hn k hk
      · exact hlt m hm k (List.mem_cons_of_mem n hk)
    refine ⟨ns'', ?_, hsorted', hperm'.trans ?_⟩
    · rw [List.map_cons, List.foldl_cons, hmap, hmap']
    · exact (hperm.append_right l).trans List.perm_middle.symm

theorem sortByX_sorted {f : Nat → Sprite} {l : List Nat} (hl : l.Pairwise (· < ·)) :
    ∃ ns : List Nat, sortByX (l.map f) = ns.map f ∧ ns.Pairwise (Sprite.Before f) ∧ ns.Perm l :=
  foldl_insertByX_sorted (ns := []) hl .nil nofun

/-- The numbers of the sprites a row admits (R359). -/
def Ppu.admittedNumbers (p : Ppu) (row : Nat) : List Nat :=
  (List.range 40).filter fun n => (p.sprite n).admitted row p.spriteHeight

theorem Ppu.selected_eq (p : Ppu) (row : Nat) :
    p.selected row = (sortByX ((p.admittedNumbers row).map p.sprite)).take 10 := by
  rw [Ppu.selected, List.filter_map]
  rfl

theorem Sprite.admitted_iff {o : Sprite} {row height : Nat} :
    o.admitted row height = true ↔ o.screenY ≤ row ∧ (row : Int) < o.screenY + height := by
  simp only [Sprite.admitted, Bool.and_eq_true, decide_eq_true_eq]

theorem Ppu.mem_admittedNumbers {p : Ppu} {row n : Nat} : n ∈ p.admittedNumbers row ↔ n < 40 ∧
    (p.sprite n).y.toNat - (16 : Int) ≤ row ∧
      (row : Int) < (p.sprite n).y.toNat - 16 + (if p.lcdc.getLsbD 2 then 16 else 8) := by
  simp only [Ppu.admittedNumbers, List.mem_filter, List.mem_range, Sprite.admitted_iff, Sprite.screenY, Ppu.spriteHeight,
    Nat.cast_ite, Nat.cast_ofNat]

/-- What the first ten of a sorted list leave out comes after all of them. -/
theorem take_of_pairwise {r : Nat → Nat → Prop} {l : List Nat} (hl : l.Pairwise r) {k m : Nat} (hm : m ∈ l)
    (hout : m ∉ l.take k) : (l.take k).length = k ∧ ∀ n ∈ l.take k, r n m := by
  have hsplit := List.take_append_drop k l
  have hdrop : m ∈ l.drop k := by
    rw [← hsplit] at hm
    exact (List.mem_append.1 hm).resolve_left hout
  have hlen := List.length_pos_of_mem hdrop
  rw [List.length_drop] at hlen
  rw [← hsplit] at hl
  exact ⟨by rw [List.length_take]; omega, fun n hn => (List.pairwise_append.1 hl).2.2 n hn m hdrop⟩

/-- Settles O59: the first ten of the sorted numbers. -/
theorem spriteSelection : Obligations.SpriteSelection := by
  intro p row h fits
  obtain ⟨ns, hmap, hsorted, hperm⟩ := sortByX_sorted (f := p.sprite) (l := p.admittedNumbers row)
    (List.pairwise_lt_range.filter _)
  have hmem : ∀ n, n ∈ ns ↔ n < 40 ∧ fits n := fun n => hperm.mem_iff.trans Ppu.mem_admittedNumbers
  refine ⟨ns.take 10, ?_, List.length_take_le 10 ns, fun n hn => (hmem n).1 (List.mem_of_mem_take hn),
    hsorted.sublist (List.take_sublist 10 ns), fun m hm hfits => take_of_pairwise hsorted ((hmem m).2 ⟨hm, hfits⟩)⟩
  rw [Ppu.selected_eq, hmap, List.map_take]

end Sys2Proof.Machine
end

section
/-! # Reset (10_state.md R60; 70_reset_and_hazards.md R400)

The state after reset: that it is safe, and what the bus reads in it. -/

namespace Sys2Proof.Machine

/-! ## It is safe -/

theorem Ppu.reset_wf : Ppu.reset.wf = true := by decide

theorem State.powerOn_wf {c : Cartridge} (h : c.wf = true) (p : Params) : State.wf (State.powerOn c p) = true :=
  State.wf_iff.2 ⟨h, Ppu.reset_wf, Memory.sized_nil _, Memory.sized_nil _, show 0 < 256 by omega⟩

/-- Settles O43: of the cartridge alone safety depends. -/
theorem resetIsSafe : Obligations.ResetIsSafe :=
  ⟨State.powerOn_wf Cartridge.blank_wf .default, fun _ _ p h => State.powerOn_wf (Cartridge.load_wf h) p⟩

/-! ## What the bus reads -/

/-- The byte read at `a` of FF00 to FFFF after reset (R60; decisions D15, D36). -/
def resetByte (a : Nat) : Byte :=
  if a = 0xFF00 then 0x0F
  else if a = 0xFF01 ∨ (0xFF04 ≤ a ∧ a ≤ 0xFF07) ∨ a = 0xFF0F ∨ (0xFF40 ≤ a ∧ a ≤ 0xFF4B ∧ a ≠ 0xFF46) ∨ 0xFF80 ≤ a
    then 0x00
  else 0xFF

theorem ioRegRead_powerOn (c : Cartridge) (p : Params) (r : IoReg) :
    (State.powerOn c p).ioRegRead r = resetByte r.addr := by
  cases r
  case p1 =>
    show Joypad.read State.reset.joypad = resetByte 0xFF00
    decide
  all_goals rfl

/-- Between the registers the bus reads 0xFF (R92). -/
theorem resetByte_of_gap : ∀ k : Fin 128, ioRegAt (0xFF00 + k) = none → resetByte (0xFF00 + k) = 0xFF := by decide

theorem resetByte_of_high {a : Nat} (ha : 0xFF80 ≤ a) : resetByte a = 0x00 := by
  rw [resetByte, if_neg (by omega), if_pos (by omega)]

theorem ioRead_powerOn (c : Cartridge) (p : Params) (k : Fin 128) :
    (State.powerOn c p).ioRead (0xFF00 + k) = resetByte (0xFF00 + k) := by
  unfold State.ioRead
  cases hr : ioRegAt (0xFF00 + k) with
  | some r =>
    rw [← addr_of_ioRegAt hr]
    exact ioRegRead_powerOn c p r
  | none => exact (resetByte_of_gap k hr).symm

theorem busRead_powerOn (c : Cartridge) (p : Params) {a : Word} (ha : 0xFF00 ≤ a.toNat) :
    (State.powerOn c p).busRead a = resetByte a.toNat := by
  rcases Nat.lt_or_ge 0xFF7F a.toNat with hhigh | hio
  · rw [resetByte_of_high hhigh]
    rcases Nat.lt_or_ge 0xFFFE a.toNat with hie | hhram
    · exact State.busRead_ie hie
    · exact State.busRead_hram hhigh hhram
  · rw [State.busRead_io ha hio]
    obtain ⟨k, hk⟩ := Nat.exists_eq_add_of_le ha
    rw [hk]
    exact ioRead_powerOn c p ⟨k, by omega⟩

/-- Every byte of RAM reads 0 after reset (decision D36). -/
theorem busRead_powerOn_ram (c : Cartridge) (p : Params) {a : Word}
    (ha : (0x8000 ≤ a.toNat ∧ a.toNat ≤ 0x9FFF) ∨ (0xC000 ≤ a.toNat ∧ a.toNat ≤ 0xFE9F)) :
    (State.powerOn c p).busRead a = 0x00 := by
  rcases ha with ⟨h1, h2⟩ | ⟨h1, h2⟩
  · exact State.busRead_vram h1 h2
  · rcases Nat.lt_or_ge 0xDFFF a.toNat with h3 | h3
    · rcases Nat.lt_or_ge 0xFDFF a.toNat with h4 | h4
      · exact State.busRead_oam h4 h2
      · exact State.busRead_echo h3 h4
    · exact State.busRead_wram h1 h3

/-- The pairs after reset, from the bytes of their registers (R60). -/
theorem resetWith_pairs (c : Cartridge) (p : Params) (v : State) : (State.resetWith c p v).bc = 0x0013 ∧
    (State.resetWith c p v).de = 0x00D8 ∧ (State.resetWith c p v).hl = 0x014D := by
  show join 0x00 0x13 = 0x0013 ∧ join 0x00 0xD8 = 0x00D8 ∧ join 0x01 0x4D = 0x014D
  decide

/-- Settles O44: the values of `State.resetWith`, and region by region what the bus reads. -/
theorem resetValues : Obligations.ResetValues := by
  refine ⟨fun c p v => ?_, fun c p => ⟨rfl, rfl, rfl, fun _ ha => busRead_powerOn c p ha,
    fun _ ha => busRead_powerOn_ram c p ha, rfl, rfl, rfl, rfl, rfl, rfl, rfl,
    fun x => Vector.getElem_replicate x.isLt⟩⟩
  obtain ⟨hbc, hde, hhl⟩ := resetWith_pairs c p v
  have hf : Cpu.reset.f.toByte = 0xB0 := by decide
  exact ⟨rfl, rfl, rfl, hf, hbc, hde, hhl, rfl, rfl, rfl⟩

end Sys2Proof.Machine
end
